-- ==== Sys2Proof/Word.lean ====
section
/-! DEFINITION. The two word types of the block (spec/00_scope.md R8): the data bus and every general register are
8 bits wide, the address bus, PC, SP and the register pairs 16 bits. Their bit-field, byte-order and sign-extension
helpers stand in Sys2Proof/Machine/Bits.lean. -/

namespace Sys2Proof

/-- A value of the 8-bit data bus or of an 8-bit register (R8). -/
abbrev Byte := BitVec 8

/-- A 16-bit address, PC, SP or register pair (R8). -/
abbrev Word := BitVec 16

end Sys2Proof
end

