-- ==== Sys2Proof/Machine/Bits.lean ====
section
/-! DEFINITION. Byte order, bit fields and sign extension (spec/00_scope.md R11, R12, spec/20_memory.md R214). -/

namespace Sys2Proof.Machine

/-- Concatenation of a high and a low byte, the spec's pair notation of R11. -/
def pair (hi lo : Byte) : Word := hi ++ lo

/-- Bits 15:8 of a word. -/
def hiByte (w : Word) : Byte := w.extractLsb' 8 8

/-- Bits 7:0 of a word. -/
def loByte (w : Word) : Byte := w.extractLsb' 0 8

/-- sext_16 of an 8-bit immediate (R12, R304). -/
def sext16 (e : Byte) : Word := e.signExtend 16

/-- A flag as a bit of a byte. -/
def bit (b : Bool) : BitVec 1 := BitVec.ofBool b

end Sys2Proof.Machine
end

