-- ==== Sys2Proof/Syntax.lean ====
section
/-! DEFINITION. The instructions of the block: one constructor of Instr for each of the 512 rows of
spec/opcode_table.json (245 unprefixed instructions, 256 CB-prefixed ones, the eleven illegal opcodes and the CB prefix
itself), and below it the same constructors as families indexed by their operand fields (spec/30_encoding.md R302, R311, R312). -/

namespace Sys2Proof

/-- The register operands r8 (R302), without code 6, which is the byte at HL. -/
inductive Reg8
  | b | c | d | e | h | l | a
  deriving DecidableEq, Repr

/-- The register-pair operands r16 (R302). -/
inductive Reg16
  | bc | de | hl | sp
  deriving DecidableEq, Repr

/-- The register-pair operands r16stk (R302) other than AF, which PUSH AF and POP AF name. -/
inductive StackPair
  | bc | de | hl
  deriving DecidableEq, Repr

/-- The condition codes cc (R650). -/
inductive Cond
  | nz | z | nc | c
  deriving DecidableEq, Repr

/-- The eight arithmetic and logic operations alu (R302). -/
inductive AluOp
  | add | adc | sub | sbc | and | xor | or | cp
  deriving DecidableEq, Repr

/-- The eight rotate and shift operations rot (R302). -/
inductive RotOp
  | rlc | rrc | rl | rr | sla | sra | swap | srl
  deriving DecidableEq, Repr

/-- The instructions. A constructor's operands are the bytes that follow its opcode (R303, R304): n8 and e8 one byte, a16 and n16
the word made of two bytes, low byte first. A name reads as the mnemonic does, with `At` for an operand in
parentheses. The constructors with operands stand first: Lean's compiled code has no room for operands in a constructor
numbered 245 or more. -/
inductive Instr
  /-- 01 LD BC,n16 (R450) -/
  | ldBcN16 (n16 : Word)
  /-- 06 LD B,n8 (R403) -/
  | ldBN8 (n8 : Byte)
  /-- 08 LD (a16),SP (R451) -/
  | ldAtA16Sp (a16 : Word)
  /-- 0E LD C,n8 (R403) -/
  | ldCN8 (n8 : Byte)
  /-- 10 STOP (R706) -/
  | stop (n : Byte)
  /-- 11 LD DE,n16 (R450) -/
  | ldDeN16 (n16 : Word)
  /-- 16 LD D,n8 (R403) -/
  | ldDN8 (n8 : Byte)
  /-- 18 JR e8 (R654) -/
  | jrE8 (e8 : Byte)
  /-- 1E LD E,n8 (R403) -/
  | ldEN8 (n8 : Byte)
  /-- 20 JR NZ,e8 (R655) -/
  | jrNzE8 (e8 : Byte)
  /-- 21 LD HL,n16 (R450) -/
  | ldHlN16 (n16 : Word)
  /-- 26 LD H,n8 (R403) -/
  | ldHN8 (n8 : Byte)
  /-- 28 JR Z,e8 (R655) -/
  | jrZE8 (e8 : Byte)
  /-- 2E LD L,n8 (R403) -/
  | ldLN8 (n8 : Byte)
  /-- 30 JR NC,e8 (R655) -/
  | jrNcE8 (e8 : Byte)
  /-- 31 LD SP,n16 (R450) -/
  | ldSpN16 (n16 : Word)
  /-- 36 LD (HL),n8 (R404) -/
  | ldAtHlN8 (n8 : Byte)
  /-- 38 JR C,e8 (R655) -/
  | jrCE8 (e8 : Byte)
  /-- 3E LD A,n8 (R403) -/
  | ldAN8 (n8 : Byte)
  /-- C2 JP NZ,a16 (R652) -/
  | jpNzA16 (a16 : Word)
  /-- C3 JP a16 (R651) -/
  | jpA16 (a16 : Word)
  /-- C4 CALL NZ,a16 (R657) -/
  | callNzA16 (a16 : Word)
  /-- C6 ADD A,n8 (R504) -/
  | addAN8 (n8 : Byte)
  /-- CA JP Z,a16 (R652) -/
  | jpZA16 (a16 : Word)
  /-- CB PREFIX CB (R713) -/
  | prefixCb (sub : Byte)
  /-- CC CALL Z,a16 (R657) -/
  | callZA16 (a16 : Word)
  /-- CD CALL a16 (R656) -/
  | callA16 (a16 : Word)
  /-- CE ADC A,n8 (R507) -/
  | adcAN8 (n8 : Byte)
  /-- D2 JP NC,a16 (R652) -/
  | jpNcA16 (a16 : Word)
  /-- D4 CALL NC,a16 (R657) -/
  | callNcA16 (a16 : Word)
  /-- D6 SUB n8 (R510) -/
  | subN8 (n8 : Byte)
  /-- DA JP C,a16 (R652) -/
  | jpCA16 (a16 : Word)
  /-- DC CALL C,a16 (R657) -/
  | callCA16 (a16 : Word)
  /-- DE SBC A,n8 (R513) -/
  | sbcAN8 (n8 : Byte)
  /-- E0 LDH (a8),A (R412) -/
  | ldhAtA8A (a8 : Byte)
  /-- E6 AND n8 (R516) -/
  | andN8 (n8 : Byte)
  /-- E8 ADD SP,e8 (R564) -/
  | addSpE8 (e8 : Byte)
  /-- EA LD (a16),A (R410) -/
  | ldAtA16A (a16 : Word)
  /-- EE XOR n8 (R519) -/
  | xorN8 (n8 : Byte)
  /-- F0 LDH A,(a8) (R411) -/
  | ldhAAtA8 (a8 : Byte)
  /-- F6 OR n8 (R522) -/
  | orN8 (n8 : Byte)
  /-- F8 LD HL,SP+e8 (R453) -/
  | ldHlSpE8 (e8 : Byte)
  /-- FA LD A,(a16) (R409) -/
  | ldAAtA16 (a16 : Word)
  /-- FE CP n8 (R525) -/
  | cpN8 (n8 : Byte)
  /-- 00 NOP (R705) -/
  | nop
  /-- 02 LD (BC),A (R407) -/
  | ldAtBcA
  /-- 03 INC BC (R561) -/
  | incBc
  /-- 04 INC B (R526) -/
  | incB
  /-- 05 DEC B (R528) -/
  | decB
  /-- 07 RLCA (R600) -/
  | rlca
  /-- 09 ADD HL,BC (R563) -/
  | addHlBc
  /-- 0A LD A,(BC) (R405) -/
  | ldAAtBc
  /-- 0B DEC BC (R562) -/
  | decBc
  /-- 0C INC C (R526) -/
  | incC
  /-- 0D DEC C (R528) -/
  | decC
  /-- 0F RRCA (R601) -/
  | rrca
  /-- 12 LD (DE),A (R408) -/
  | ldAtDeA
  /-- 13 INC DE (R561) -/
  | incDe
  /-- 14 INC D (R526) -/
  | incD
  /-- 15 DEC D (R528) -/
  | decD
  /-- 17 RLA (R602) -/
  | rla
  /-- 19 ADD HL,DE (R563) -/
  | addHlDe
  /-- 1A LD A,(DE) (R406) -/
  | ldAAtDe
  /-- 1B DEC DE (R562) -/
  | decDe
  /-- 1C INC E (R526) -/
  | incE
  /-- 1D DEC E (R528) -/
  | decE
  /-- 1F RRA (R603) -/
  | rra
  /-- 22 LD (HL+),A (R417) -/
  | ldAtHlIncA
  /-- 23 INC HL (R561) -/
  | incHl
  /-- 24 INC H (R526) -/
  | incH
  /-- 25 DEC H (R528) -/
  | decH
  /-- 27 DAA (R530) -/
  | daa
  /-- 29 ADD HL,HL (R563) -/
  | addHlHl
  /-- 2A LD A,(HL+) (R415) -/
  | ldAAtHlInc
  /-- 2B DEC HL (R562) -/
  | decHl
  /-- 2C INC L (R526) -/
  | incL
  /-- 2D DEC L (R528) -/
  | decL
  /-- 2F CPL (R531) -/
  | cpl
  /-- 32 LD (HL-),A (R418) -/
  | ldAtHlDecA
  /-- 33 INC SP (R561) -/
  | incSp
  /-- 34 INC (HL) (R527) -/
  | incAtHl
  /-- 35 DEC (HL) (R529) -/
  | decAtHl
  /-- 37 SCF (R532) -/
  | scf
  /-- 39 ADD HL,SP (R563) -/
  | addHlSp
  /-- 3A LD A,(HL-) (R416) -/
  | ldAAtHlDec
  /-- 3B DEC SP (R562) -/
  | decSp
  /-- 3C INC A (R526) -/
  | incA
  /-- 3D DEC A (R528) -/
  | decA
  /-- 3F CCF (R533) -/
  | ccf
  /-- 40 LD B,B (R400) -/
  | ldBB
  /-- 41 LD B,C (R400) -/
  | ldBC
  /-- 42 LD B,D (R400) -/
  | ldBD
  /-- 43 LD B,E (R400) -/
  | ldBE
  /-- 44 LD B,H (R400) -/
  | ldBH
  /-- 45 LD B,L (R400) -/
  | ldBL
  /-- 46 LD B,(HL) (R401) -/
  | ldBAtHl
  /-- 47 LD B,A (R400) -/
  | ldBA
  /-- 48 LD C,B (R400) -/
  | ldCB
  /-- 49 LD C,C (R400) -/
  | ldCC
  /-- 4A LD C,D (R400) -/
  | ldCD
  /-- 4B LD C,E (R400) -/
  | ldCE
  /-- 4C LD C,H (R400) -/
  | ldCH
  /-- 4D LD C,L (R400) -/
  | ldCL
  /-- 4E LD C,(HL) (R401) -/
  | ldCAtHl
  /-- 4F LD C,A (R400) -/
  | ldCA
  /-- 50 LD D,B (R400) -/
  | ldDB
  /-- 51 LD D,C (R400) -/
  | ldDC
  /-- 52 LD D,D (R400) -/
  | ldDD
  /-- 53 LD D,E (R400) -/
  | ldDE
  /-- 54 LD D,H (R400) -/
  | ldDH
  /-- 55 LD D,L (R400) -/
  | ldDL
  /-- 56 LD D,(HL) (R401) -/
  | ldDAtHl
  /-- 57 LD D,A (R400) -/
  | ldDA
  /-- 58 LD E,B (R400) -/
  | ldEB
  /-- 59 LD E,C (R400) -/
  | ldEC
  /-- 5A LD E,D (R400) -/
  | ldED
  /-- 5B LD E,E (R400) -/
  | ldEE
  /-- 5C LD E,H (R400) -/
  | ldEH
  /-- 5D LD E,L (R400) -/
  | ldEL
  /-- 5E LD E,(HL) (R401) -/
  | ldEAtHl
  /-- 5F LD E,A (R400) -/
  | ldEA
  /-- 60 LD H,B (R400) -/
  | ldHB
  /-- 61 LD H,C (R400) -/
  | ldHC
  /-- 62 LD H,D (R400) -/
  | ldHD
  /-- 63 LD H,E (R400) -/
  | ldHE
  /-- 64 LD H,H (R400) -/
  | ldHH
  /-- 65 LD H,L (R400) -/
  | ldHL
  /-- 66 LD H,(HL) (R401) -/
  | ldHAtHl
  /-- 67 LD H,A (R400) -/
  | ldHA
  /-- 68 LD L,B (R400) -/
  | ldLB
  /-- 69 LD L,C (R400) -/
  | ldLC
  /-- 6A LD L,D (R400) -/
  | ldLD
  /-- 6B LD L,E (R400) -/
  | ldLE
  /-- 6C LD L,H (R400) -/
  | ldLH
  /-- 6D LD L,L (R400) -/
  | ldLL
  /-- 6E LD L,(HL) (R401) -/
  | ldLAtHl
  /-- 6F LD L,A (R400) -/
  | ldLA
  /-- 70 LD (HL),B (R402) -/
  | ldAtHlB
  /-- 71 LD (HL),C (R402) -/
  | ldAtHlC
  /-- 72 LD (HL),D (R402) -/
  | ldAtHlD
  /-- 73 LD (HL),E (R402) -/
  | ldAtHlE
  /-- 74 LD (HL),H (R402) -/
  | ldAtHlH
  /-- 75 LD (HL),L (R402) -/
  | ldAtHlL
  /-- 76 HALT (R712) -/
  | halt
  /-- 77 LD (HL),A (R402) -/
  | ldAtHlA
  /-- 78 LD A,B (R400) -/
  | ldAB
  /-- 79 LD A,C (R400) -/
  | ldAC
  /-- 7A LD A,D (R400) -/
  | ldAD
  /-- 7B LD A,E (R400) -/
  | ldAE
  /-- 7C LD A,H (R400) -/
  | ldAH
  /-- 7D LD A,L (R400) -/
  | ldAL
  /-- 7E LD A,(HL) (R401) -/
  | ldAAtHl
  /-- 7F LD A,A (R400) -/
  | ldAA
  /-- 80 ADD A,B (R502) -/
  | addAB
  /-- 81 ADD A,C (R502) -/
  | addAC
  /-- 82 ADD A,D (R502) -/
  | addAD
  /-- 83 ADD A,E (R502) -/
  | addAE
  /-- 84 ADD A,H (R502) -/
  | addAH
  /-- 85 ADD A,L (R502) -/
  | addAL
  /-- 86 ADD A,(HL) (R503) -/
  | addAAtHl
  /-- 87 ADD A,A (R502) -/
  | addAA
  /-- 88 ADC A,B (R505) -/
  | adcAB
  /-- 89 ADC A,C (R505) -/
  | adcAC
  /-- 8A ADC A,D (R505) -/
  | adcAD
  /-- 8B ADC A,E (R505) -/
  | adcAE
  /-- 8C ADC A,H (R505) -/
  | adcAH
  /-- 8D ADC A,L (R505) -/
  | adcAL
  /-- 8E ADC A,(HL) (R506) -/
  | adcAAtHl
  /-- 8F ADC A,A (R505) -/
  | adcAA
  /-- 90 SUB B (R508) -/
  | subB
  /-- 91 SUB C (R508) -/
  | subC
  /-- 92 SUB D (R508) -/
  | subD
  /-- 93 SUB E (R508) -/
  | subE
  /-- 94 SUB H (R508) -/
  | subH
  /-- 95 SUB L (R508) -/
  | subL
  /-- 96 SUB (HL) (R509) -/
  | subAtHl
  /-- 97 SUB A (R508) -/
  | subA
  /-- 98 SBC A,B (R511) -/
  | sbcAB
  /-- 99 SBC A,C (R511) -/
  | sbcAC
  /-- 9A SBC A,D (R511) -/
  | sbcAD
  /-- 9B SBC A,E (R511) -/
  | sbcAE
  /-- 9C SBC A,H (R511) -/
  | sbcAH
  /-- 9D SBC A,L (R511) -/
  | sbcAL
  /-- 9E SBC A,(HL) (R512) -/
  | sbcAAtHl
  /-- 9F SBC A,A (R511) -/
  | sbcAA
  /-- A0 AND B (R514) -/
  | andB
  /-- A1 AND C (R514) -/
  | andC
  /-- A2 AND D (R514) -/
  | andD
  /-- A3 AND E (R514) -/
  | andE
  /-- A4 AND H (R514) -/
  | andH
  /-- A5 AND L (R514) -/
  | andL
  /-- A6 AND (HL) (R515) -/
  | andAtHl
  /-- A7 AND A (R514) -/
  | andA
  /-- A8 XOR B (R517) -/
  | xorB
  /-- A9 XOR C (R517) -/
  | xorC
  /-- AA XOR D (R517) -/
  | xorD
  /-- AB XOR E (R517) -/
  | xorE
  /-- AC XOR H (R517) -/
  | xorH
  /-- AD XOR L (R517) -/
  | xorL
  /-- AE XOR (HL) (R518) -/
  | xorAtHl
  /-- AF XOR A (R517) -/
  | xorA
  /-- B0 OR B (R520) -/
  | orB
  /-- B1 OR C (R520) -/
  | orC
  /-- B2 OR D (R520) -/
  | orD
  /-- B3 OR E (R520) -/
  | orE
  /-- B4 OR H (R520) -/
  | orH
  /-- B5 OR L (R520) -/
  | orL
  /-- B6 OR (HL) (R521) -/
  | orAtHl
  /-- B7 OR A (R520) -/
  | orA
  /-- B8 CP B (R523) -/
  | cpB
  /-- B9 CP C (R523) -/
  | cpC
  /-- BA CP D (R523) -/
  | cpD
  /-- BB CP E (R523) -/
  | cpE
  /-- BC CP H (R523) -/
  | cpH
  /-- BD CP L (R523) -/
  | cpL
  /-- BE CP (HL) (R524) -/
  | cpAtHl
  /-- BF CP A (R523) -/
  | cpA
  /-- C0 RET NZ (R659) -/
  | retNz
  /-- C1 POP BC (R456) -/
  | popBc
  /-- C5 PUSH BC (R454) -/
  | pushBc
  /-- C7 RST 00H (R661) -/
  | rst00
  /-- C8 RET Z (R659) -/
  | retZ
  /-- C9 RET (R658) -/
  | ret
  /-- CF RST 08H (R661) -/
  | rst08
  /-- D0 RET NC (R659) -/
  | retNc
  /-- D1 POP DE (R456) -/
  | popDe
  /-- D3 ILLEGAL_D3 (R704) -/
  | illegalD3
  /-- D5 PUSH DE (R454) -/
  | pushDe
  /-- D7 RST 10H (R661) -/
  | rst10
  /-- D8 RET C (R659) -/
  | retC
  /-- D9 RETI (R660) -/
  | reti
  /-- DB ILLEGAL_DB (R704) -/
  | illegalDB
  /-- DD ILLEGAL_DD (R704) -/
  | illegalDD
  /-- DF RST 18H (R661) -/
  | rst18
  /-- E1 POP HL (R456) -/
  | popHl
  /-- E2 LD (C),A (R414) -/
  | ldAtCA
  /-- E3 ILLEGAL_E3 (R704) -/
  | illegalE3
  /-- E4 ILLEGAL_E4 (R704) -/
  | illegalE4
  /-- E5 PUSH HL (R454) -/
  | pushHl
  /-- E7 RST 20H (R661) -/
  | rst20
  /-- E9 JP HL (R653) -/
  | jpHl
  /-- EB ILLEGAL_EB (R704) -/
  | illegalEB
  /-- EC ILLEGAL_EC (R704) -/
  | illegalEC
  /-- ED ILLEGAL_ED (R704) -/
  | illegalED
  /-- EF RST 28H (R661) -/
  | rst28
  /-- F1 POP AF (R457) -/
  | popAf
  /-- F2 LD A,(C) (R413) -/
  | ldAAtC
  /-- F3 DI (R710) -/
  | di
  /-- F4 ILLEGAL_F4 (R704) -/
  | illegalF4
  /-- F5 PUSH AF (R455) -/
  | pushAf
  /-- F7 RST 30H (R661) -/
  | rst30
  /-- F9 LD SP,HL (R452) -/
  | ldSpHl
  /-- FB EI (R711) -/
  | ei
  /-- FC ILLEGAL_FC (R704) -/
  | illegalFC
  /-- FD ILLEGAL_FD (R704) -/
  | illegalFD
  /-- FF RST 38H (R661) -/
  | rst38
  /-- CB00 RLC B (R605) -/
  | rlcB
  /-- CB01 RLC C (R605) -/
  | rlcC
  /-- CB02 RLC D (R605) -/
  | rlcD
  /-- CB03 RLC E (R605) -/
  | rlcE
  /-- CB04 RLC H (R605) -/
  | rlcH
  /-- CB05 RLC L (R605) -/
  | rlcL
  /-- CB06 RLC (HL) (R606) -/
  | rlcAtHl
  /-- CB07 RLC A (R605) -/
  | rlcA
  /-- CB08 RRC B (R607) -/
  | rrcB
  /-- CB09 RRC C (R607) -/
  | rrcC
  /-- CB0A RRC D (R607) -/
  | rrcD
  /-- CB0B RRC E (R607) -/
  | rrcE
  /-- CB0C RRC H (R607) -/
  | rrcH
  /-- CB0D RRC L (R607) -/
  | rrcL
  /-- CB0E RRC (HL) (R608) -/
  | rrcAtHl
  /-- CB0F RRC A (R607) -/
  | rrcA
  /-- CB10 RL B (R609) -/
  | rlB
  /-- CB11 RL C (R609) -/
  | rlC
  /-- CB12 RL D (R609) -/
  | rlD
  /-- CB13 RL E (R609) -/
  | rlE
  /-- CB14 RL H (R609) -/
  | rlH
  /-- CB15 RL L (R609) -/
  | rlL
  /-- CB16 RL (HL) (R610) -/
  | rlAtHl
  /-- CB17 RL A (R609) -/
  | rlA
  /-- CB18 RR B (R611) -/
  | rrB
  /-- CB19 RR C (R611) -/
  | rrC
  /-- CB1A RR D (R611) -/
  | rrD
  /-- CB1B RR E (R611) -/
  | rrE
  /-- CB1C RR H (R611) -/
  | rrH
  /-- CB1D RR L (R611) -/
  | rrL
  /-- CB1E RR (HL) (R612) -/
  | rrAtHl
  /-- CB1F RR A (R611) -/
  | rrA
  /-- CB20 SLA B (R613) -/
  | slaB
  /-- CB21 SLA C (R613) -/
  | slaC
  /-- CB22 SLA D (R613) -/
  | slaD
  /-- CB23 SLA E (R613) -/
  | slaE
  /-- CB24 SLA H (R613) -/
  | slaH
  /-- CB25 SLA L (R613) -/
  | slaL
  /-- CB26 SLA (HL) (R614) -/
  | slaAtHl
  /-- CB27 SLA A (R613) -/
  | slaA
  /-- CB28 SRA B (R615) -/
  | sraB
  /-- CB29 SRA C (R615) -/
  | sraC
  /-- CB2A SRA D (R615) -/
  | sraD
  /-- CB2B SRA E (R615) -/
  | sraE
  /-- CB2C SRA H (R615) -/
  | sraH
  /-- CB2D SRA L (R615) -/
  | sraL
  /-- CB2E SRA (HL) (R616) -/
  | sraAtHl
  /-- CB2F SRA A (R615) -/
  | sraA
  /-- CB30 SWAP B (R617) -/
  | swapB
  /-- CB31 SWAP C (R617) -/
  | swapC
  /-- CB32 SWAP D (R617) -/
  | swapD
  /-- CB33 SWAP E (R617) -/
  | swapE
  /-- CB34 SWAP H (R617) -/
  | swapH
  /-- CB35 SWAP L (R617) -/
  | swapL
  /-- CB36 SWAP (HL) (R618) -/
  | swapAtHl
  /-- CB37 SWAP A (R617) -/
  | swapA
  /-- CB38 SRL B (R619) -/
  | srlB
  /-- CB39 SRL C (R619) -/
  | srlC
  /-- CB3A SRL D (R619) -/
  | srlD
  /-- CB3B SRL E (R619) -/
  | srlE
  /-- CB3C SRL H (R619) -/
  | srlH
  /-- CB3D SRL L (R619) -/
  | srlL
  /-- CB3E SRL (HL) (R620) -/
  | srlAtHl
  /-- CB3F SRL A (R619) -/
  | srlA
  /-- CB40 BIT 0,B (R621) -/
  | bit0B
  /-- CB41 BIT 0,C (R621) -/
  | bit0C
  /-- CB42 BIT 0,D (R621) -/
  | bit0D
  /-- CB43 BIT 0,E (R621) -/
  | bit0E
  /-- CB44 BIT 0,H (R621) -/
  | bit0H
  /-- CB45 BIT 0,L (R621) -/
  | bit0L
  /-- CB46 BIT 0,(HL) (R622) -/
  | bit0AtHl
  /-- CB47 BIT 0,A (R621) -/
  | bit0A
  /-- CB48 BIT 1,B (R621) -/
  | bit1B
  /-- CB49 BIT 1,C (R621) -/
  | bit1C
  /-- CB4A BIT 1,D (R621) -/
  | bit1D
  /-- CB4B BIT 1,E (R621) -/
  | bit1E
  /-- CB4C BIT 1,H (R621) -/
  | bit1H
  /-- CB4D BIT 1,L (R621) -/
  | bit1L
  /-- CB4E BIT 1,(HL) (R622) -/
  | bit1AtHl
  /-- CB4F BIT 1,A (R621) -/
  | bit1A
  /-- CB50 BIT 2,B (R621) -/
  | bit2B
  /-- CB51 BIT 2,C (R621) -/
  | bit2C
  /-- CB52 BIT 2,D (R621) -/
  | bit2D
  /-- CB53 BIT 2,E (R621) -/
  | bit2E
  /-- CB54 BIT 2,H (R621) -/
  | bit2H
  /-- CB55 BIT 2,L (R621) -/
  | bit2L
  /-- CB56 BIT 2,(HL) (R622) -/
  | bit2AtHl
  /-- CB57 BIT 2,A (R621) -/
  | bit2A
  /-- CB58 BIT 3,B (R621) -/
  | bit3B
  /-- CB59 BIT 3,C (R621) -/
  | bit3C
  /-- CB5A BIT 3,D (R621) -/
  | bit3D
  /-- CB5B BIT 3,E (R621) -/
  | bit3E
  /-- CB5C BIT 3,H (R621) -/
  | bit3H
  /-- CB5D BIT 3,L (R621) -/
  | bit3L
  /-- CB5E BIT 3,(HL) (R622) -/
  | bit3AtHl
  /-- CB5F BIT 3,A (R621) -/
  | bit3A
  /-- CB60 BIT 4,B (R621) -/
  | bit4B
  /-- CB61 BIT 4,C (R621) -/
  | bit4C
  /-- CB62 BIT 4,D (R621) -/
  | bit4D
  /-- CB63 BIT 4,E (R621) -/
  | bit4E
  /-- CB64 BIT 4,H (R621) -/
  | bit4H
  /-- CB65 BIT 4,L (R621) -/
  | bit4L
  /-- CB66 BIT 4,(HL) (R622) -/
  | bit4AtHl
  /-- CB67 BIT 4,A (R621) -/
  | bit4A
  /-- CB68 BIT 5,B (R621) -/
  | bit5B
  /-- CB69 BIT 5,C (R621) -/
  | bit5C
  /-- CB6A BIT 5,D (R621) -/
  | bit5D
  /-- CB6B BIT 5,E (R621) -/
  | bit5E
  /-- CB6C BIT 5,H (R621) -/
  | bit5H
  /-- CB6D BIT 5,L (R621) -/
  | bit5L
  /-- CB6E BIT 5,(HL) (R622) -/
  | bit5AtHl
  /-- CB6F BIT 5,A (R621) -/
  | bit5A
  /-- CB70 BIT 6,B (R621) -/
  | bit6B
  /-- CB71 BIT 6,C (R621) -/
  | bit6C
  /-- CB72 BIT 6,D (R621) -/
  | bit6D
  /-- CB73 BIT 6,E (R621) -/
  | bit6E
  /-- CB74 BIT 6,H (R621) -/
  | bit6H
  /-- CB75 BIT 6,L (R621) -/
  | bit6L
  /-- CB76 BIT 6,(HL) (R622) -/
  | bit6AtHl
  /-- CB77 BIT 6,A (R621) -/
  | bit6A
  /-- CB78 BIT 7,B (R621) -/
  | bit7B
  /-- CB79 BIT 7,C (R621) -/
  | bit7C
  /-- CB7A BIT 7,D (R621) -/
  | bit7D
  /-- CB7B BIT 7,E (R621) -/
  | bit7E
  /-- CB7C BIT 7,H (R621) -/
  | bit7H
  /-- CB7D BIT 7,L (R621) -/
  | bit7L
  /-- CB7E BIT 7,(HL) (R622) -/
  | bit7AtHl
  /-- CB7F BIT 7,A (R621) -/
  | bit7A
  /-- CB80 RES 0,B (R623) -/
  | res0B
  /-- CB81 RES 0,C (R623) -/
  | res0C
  /-- CB82 RES 0,D (R623) -/
  | res0D
  /-- CB83 RES 0,E (R623) -/
  | res0E
  /-- CB84 RES 0,H (R623) -/
  | res0H
  /-- CB85 RES 0,L (R623) -/
  | res0L
  /-- CB86 RES 0,(HL) (R624) -/
  | res0AtHl
  /-- CB87 RES 0,A (R623) -/
  | res0A
  /-- CB88 RES 1,B (R623) -/
  | res1B
  /-- CB89 RES 1,C (R623) -/
  | res1C
  /-- CB8A RES 1,D (R623) -/
  | res1D
  /-- CB8B RES 1,E (R623) -/
  | res1E
  /-- CB8C RES 1,H (R623) -/
  | res1H
  /-- CB8D RES 1,L (R623) -/
  | res1L
  /-- CB8E RES 1,(HL) (R624) -/
  | res1AtHl
  /-- CB8F RES 1,A (R623) -/
  | res1A
  /-- CB90 RES 2,B (R623) -/
  | res2B
  /-- CB91 RES 2,C (R623) -/
  | res2C
  /-- CB92 RES 2,D (R623) -/
  | res2D
  /-- CB93 RES 2,E (R623) -/
  | res2E
  /-- CB94 RES 2,H (R623) -/
  | res2H
  /-- CB95 RES 2,L (R623) -/
  | res2L
  /-- CB96 RES 2,(HL) (R624) -/
  | res2AtHl
  /-- CB97 RES 2,A (R623) -/
  | res2A
  /-- CB98 RES 3,B (R623) -/
  | res3B
  /-- CB99 RES 3,C (R623) -/
  | res3C
  /-- CB9A RES 3,D (R623) -/
  | res3D
  /-- CB9B RES 3,E (R623) -/
  | res3E
  /-- CB9C RES 3,H (R623) -/
  | res3H
  /-- CB9D RES 3,L (R623) -/
  | res3L
  /-- CB9E RES 3,(HL) (R624) -/
  | res3AtHl
  /-- CB9F RES 3,A (R623) -/
  | res3A
  /-- CBA0 RES 4,B (R623) -/
  | res4B
  /-- CBA1 RES 4,C (R623) -/
  | res4C
  /-- CBA2 RES 4,D (R623) -/
  | res4D
  /-- CBA3 RES 4,E (R623) -/
  | res4E
  /-- CBA4 RES 4,H (R623) -/
  | res4H
  /-- CBA5 RES 4,L (R623) -/
  | res4L
  /-- CBA6 RES 4,(HL) (R624) -/
  | res4AtHl
  /-- CBA7 RES 4,A (R623) -/
  | res4A
  /-- CBA8 RES 5,B (R623) -/
  | res5B
  /-- CBA9 RES 5,C (R623) -/
  | res5C
  /-- CBAA RES 5,D (R623) -/
  | res5D
  /-- CBAB RES 5,E (R623) -/
  | res5E
  /-- CBAC RES 5,H (R623) -/
  | res5H
  /-- CBAD RES 5,L (R623) -/
  | res5L
  /-- CBAE RES 5,(HL) (R624) -/
  | res5AtHl
  /-- CBAF RES 5,A (R623) -/
  | res5A
  /-- CBB0 RES 6,B (R623) -/
  | res6B
  /-- CBB1 RES 6,C (R623) -/
  | res6C
  /-- CBB2 RES 6,D (R623) -/
  | res6D
  /-- CBB3 RES 6,E (R623) -/
  | res6E
  /-- CBB4 RES 6,H (R623) -/
  | res6H
  /-- CBB5 RES 6,L (R623) -/
  | res6L
  /-- CBB6 RES 6,(HL) (R624) -/
  | res6AtHl
  /-- CBB7 RES 6,A (R623) -/
  | res6A
  /-- CBB8 RES 7,B (R623) -/
  | res7B
  /-- CBB9 RES 7,C (R623) -/
  | res7C
  /-- CBBA RES 7,D (R623) -/
  | res7D
  /-- CBBB RES 7,E (R623) -/
  | res7E
  /-- CBBC RES 7,H (R623) -/
  | res7H
  /-- CBBD RES 7,L (R623) -/
  | res7L
  /-- CBBE RES 7,(HL) (R624) -/
  | res7AtHl
  /-- CBBF RES 7,A (R623) -/
  | res7A
  /-- CBC0 SET 0,B (R625) -/
  | set0B
  /-- CBC1 SET 0,C (R625) -/
  | set0C
  /-- CBC2 SET 0,D (R625) -/
  | set0D
  /-- CBC3 SET 0,E (R625) -/
  | set0E
  /-- CBC4 SET 0,H (R625) -/
  | set0H
  /-- CBC5 SET 0,L (R625) -/
  | set0L
  /-- CBC6 SET 0,(HL) (R626) -/
  | set0AtHl
  /-- CBC7 SET 0,A (R625) -/
  | set0A
  /-- CBC8 SET 1,B (R625) -/
  | set1B
  /-- CBC9 SET 1,C (R625) -/
  | set1C
  /-- CBCA SET 1,D (R625) -/
  | set1D
  /-- CBCB SET 1,E (R625) -/
  | set1E
  /-- CBCC SET 1,H (R625) -/
  | set1H
  /-- CBCD SET 1,L (R625) -/
  | set1L
  /-- CBCE SET 1,(HL) (R626) -/
  | set1AtHl
  /-- CBCF SET 1,A (R625) -/
  | set1A
  /-- CBD0 SET 2,B (R625) -/
  | set2B
  /-- CBD1 SET 2,C (R625) -/
  | set2C
  /-- CBD2 SET 2,D (R625) -/
  | set2D
  /-- CBD3 SET 2,E (R625) -/
  | set2E
  /-- CBD4 SET 2,H (R625) -/
  | set2H
  /-- CBD5 SET 2,L (R625) -/
  | set2L
  /-- CBD6 SET 2,(HL) (R626) -/
  | set2AtHl
  /-- CBD7 SET 2,A (R625) -/
  | set2A
  /-- CBD8 SET 3,B (R625) -/
  | set3B
  /-- CBD9 SET 3,C (R625) -/
  | set3C
  /-- CBDA SET 3,D (R625) -/
  | set3D
  /-- CBDB SET 3,E (R625) -/
  | set3E
  /-- CBDC SET 3,H (R625) -/
  | set3H
  /-- CBDD SET 3,L (R625) -/
  | set3L
  /-- CBDE SET 3,(HL) (R626) -/
  | set3AtHl
  /-- CBDF SET 3,A (R625) -/
  | set3A
  /-- CBE0 SET 4,B (R625) -/
  | set4B
  /-- CBE1 SET 4,C (R625) -/
  | set4C
  /-- CBE2 SET 4,D (R625) -/
  | set4D
  /-- CBE3 SET 4,E (R625) -/
  | set4E
  /-- CBE4 SET 4,H (R625) -/
  | set4H
  /-- CBE5 SET 4,L (R625) -/
  | set4L
  /-- CBE6 SET 4,(HL) (R626) -/
  | set4AtHl
  /-- CBE7 SET 4,A (R625) -/
  | set4A
  /-- CBE8 SET 5,B (R625) -/
  | set5B
  /-- CBE9 SET 5,C (R625) -/
  | set5C
  /-- CBEA SET 5,D (R625) -/
  | set5D
  /-- CBEB SET 5,E (R625) -/
  | set5E
  /-- CBEC SET 5,H (R625) -/
  | set5H
  /-- CBED SET 5,L (R625) -/
  | set5L
  /-- CBEE SET 5,(HL) (R626) -/
  | set5AtHl
  /-- CBEF SET 5,A (R625) -/
  | set5A
  /-- CBF0 SET 6,B (R625) -/
  | set6B
  /-- CBF1 SET 6,C (R625) -/
  | set6C
  /-- CBF2 SET 6,D (R625) -/
  | set6D
  /-- CBF3 SET 6,E (R625) -/
  | set6E
  /-- CBF4 SET 6,H (R625) -/
  | set6H
  /-- CBF5 SET 6,L (R625) -/
  | set6L
  /-- CBF6 SET 6,(HL) (R626) -/
  | set6AtHl
  /-- CBF7 SET 6,A (R625) -/
  | set6A
  /-- CBF8 SET 7,B (R625) -/
  | set7B
  /-- CBF9 SET 7,C (R625) -/
  | set7C
  /-- CBFA SET 7,D (R625) -/
  | set7D
  /-- CBFB SET 7,E (R625) -/
  | set7E
  /-- CBFC SET 7,H (R625) -/
  | set7H
  /-- CBFD SET 7,L (R625) -/
  | set7L
  /-- CBFE SET 7,(HL) (R626) -/
  | set7AtHl
  /-- CBFF SET 7,A (R625) -/
  | set7A
  deriving DecidableEq, Repr

namespace Instr

/-- LD r,r2 (R400). -/
def ldReg : Reg8 → Reg8 → Instr
  | .b, .b => .ldBB
  | .b, .c => .ldBC
  | .b, .d => .ldBD
  | .b, .e => .ldBE
  | .b, .h => .ldBH
  | .b, .l => .ldBL
  | .b, .a => .ldBA
  | .c, .b => .ldCB
  | .c, .c => .ldCC
  | .c, .d => .ldCD
  | .c, .e => .ldCE
  | .c, .h => .ldCH
  | .c, .l => .ldCL
  | .c, .a => .ldCA
  | .d, .b => .ldDB
  | .d, .c => .ldDC
  | .d, .d => .ldDD
  | .d, .e => .ldDE
  | .d, .h => .ldDH
  | .d, .l => .ldDL
  | .d, .a => .ldDA
  | .e, .b => .ldEB
  | .e, .c => .ldEC
  | .e, .d => .ldED
  | .e, .e => .ldEE
  | .e, .h => .ldEH
  | .e, .l => .ldEL
  | .e, .a => .ldEA
  | .h, .b => .ldHB
  | .h, .c => .ldHC
  | .h, .d => .ldHD
  | .h, .e => .ldHE
  | .h, .h => .ldHH
  | .h, .l => .ldHL
  | .h, .a => .ldHA
  | .l, .b => .ldLB
  | .l, .c => .ldLC
  | .l, .d => .ldLD
  | .l, .e => .ldLE
  | .l, .h => .ldLH
  | .l, .l => .ldLL
  | .l, .a => .ldLA
  | .a, .b => .ldAB
  | .a, .c => .ldAC
  | .a, .d => .ldAD
  | .a, .e => .ldAE
  | .a, .h => .ldAH
  | .a, .l => .ldAL
  | .a, .a => .ldAA

/-- LD r,(HL) (R401). -/
def ldRegAtHl : Reg8 → Instr
  | .b => .ldBAtHl
  | .c => .ldCAtHl
  | .d => .ldDAtHl
  | .e => .ldEAtHl
  | .h => .ldHAtHl
  | .l => .ldLAtHl
  | .a => .ldAAtHl

/-- LD (HL),r (R402). -/
def ldAtHlReg : Reg8 → Instr
  | .b => .ldAtHlB
  | .c => .ldAtHlC
  | .d => .ldAtHlD
  | .e => .ldAtHlE
  | .h => .ldAtHlH
  | .l => .ldAtHlL
  | .a => .ldAtHlA

/-- LD r,n8 (R403). -/
def ldRegN8 : Reg8 → Byte → Instr
  | .b => .ldBN8
  | .c => .ldCN8
  | .d => .ldDN8
  | .e => .ldEN8
  | .h => .ldHN8
  | .l => .ldLN8
  | .a => .ldAN8

/-- LD rr,n16 (R450). -/
def ldR16N16 : Reg16 → Word → Instr
  | .bc => .ldBcN16
  | .de => .ldDeN16
  | .hl => .ldHlN16
  | .sp => .ldSpN16

/-- PUSH rr (R454). -/
def pushPair : StackPair → Instr
  | .bc => .pushBc
  | .de => .pushDe
  | .hl => .pushHl

/-- POP rr (R456). -/
def popPair : StackPair → Instr
  | .bc => .popBc
  | .de => .popDe
  | .hl => .popHl

/-- The arithmetic and logic operations on a register: ADD, ADC, SUB, SBC, AND, XOR, OR, CP (R502, R505, R508, R511, R514, R517,
R520, R523). -/
def aluReg : AluOp → Reg8 → Instr
  | .add, .b => .addAB
  | .add, .c => .addAC
  | .add, .d => .addAD
  | .add, .e => .addAE
  | .add, .h => .addAH
  | .add, .l => .addAL
  | .add, .a => .addAA
  | .adc, .b => .adcAB
  | .adc, .c => .adcAC
  | .adc, .d => .adcAD
  | .adc, .e => .adcAE
  | .adc, .h => .adcAH
  | .adc, .l => .adcAL
  | .adc, .a => .adcAA
  | .sub, .b => .subB
  | .sub, .c => .subC
  | .sub, .d => .subD
  | .sub, .e => .subE
  | .sub, .h => .subH
  | .sub, .l => .subL
  | .sub, .a => .subA
  | .sbc, .b => .sbcAB
  | .sbc, .c => .sbcAC
  | .sbc, .d => .sbcAD
  | .sbc, .e => .sbcAE
  | .sbc, .h => .sbcAH
  | .sbc, .l => .sbcAL
  | .sbc, .a => .sbcAA
  | .and, .b => .andB
  | .and, .c => .andC
  | .and, .d => .andD
  | .and, .e => .andE
  | .and, .h => .andH
  | .and, .l => .andL
  | .and, .a => .andA
  | .xor, .b => .xorB
  | .xor, .c => .xorC
  | .xor, .d => .xorD
  | .xor, .e => .xorE
  | .xor, .h => .xorH
  | .xor, .l => .xorL
  | .xor, .a => .xorA
  | .or, .b => .orB
  | .or, .c => .orC
  | .or, .d => .orD
  | .or, .e => .orE
  | .or, .h => .orH
  | .or, .l => .orL
  | .or, .a => .orA
  | .cp, .b => .cpB
  | .cp, .c => .cpC
  | .cp, .d => .cpD
  | .cp, .e => .cpE
  | .cp, .h => .cpH
  | .cp, .l => .cpL
  | .cp, .a => .cpA

/-- The same on the byte at HL (R503, R506, R509, R512, R515, R518, R521, R524). -/
def aluAtHl : AluOp → Instr
  | .add => .addAAtHl
  | .adc => .adcAAtHl
  | .sub => .subAtHl
  | .sbc => .sbcAAtHl
  | .and => .andAtHl
  | .xor => .xorAtHl
  | .or => .orAtHl
  | .cp => .cpAtHl

/-- The same on an immediate (R504, R507, R510, R513, R516, R519, R522, R525). -/
def aluN8 : AluOp → Byte → Instr
  | .add => .addAN8
  | .adc => .adcAN8
  | .sub => .subN8
  | .sbc => .sbcAN8
  | .and => .andN8
  | .xor => .xorN8
  | .or => .orN8
  | .cp => .cpN8

/-- INC r (R526). -/
def incReg : Reg8 → Instr
  | .b => .incB
  | .c => .incC
  | .d => .incD
  | .e => .incE
  | .h => .incH
  | .l => .incL
  | .a => .incA

/-- DEC r (R528). -/
def decReg : Reg8 → Instr
  | .b => .decB
  | .c => .decC
  | .d => .decD
  | .e => .decE
  | .h => .decH
  | .l => .decL
  | .a => .decA

/-- INC rr (R561). -/
def incR16 : Reg16 → Instr
  | .bc => .incBc
  | .de => .incDe
  | .hl => .incHl
  | .sp => .incSp

/-- DEC rr (R562). -/
def decR16 : Reg16 → Instr
  | .bc => .decBc
  | .de => .decDe
  | .hl => .decHl
  | .sp => .decSp

/-- ADD HL,rr (R563). -/
def addHlR16 : Reg16 → Instr
  | .bc => .addHlBc
  | .de => .addHlDe
  | .hl => .addHlHl
  | .sp => .addHlSp

/-- JP cc,a16 (R652). -/
def jpCond : Cond → Word → Instr
  | .nz => .jpNzA16
  | .z => .jpZA16
  | .nc => .jpNcA16
  | .c => .jpCA16

/-- JR cc,e8 (R655). -/
def jrCond : Cond → Byte → Instr
  | .nz => .jrNzE8
  | .z => .jrZE8
  | .nc => .jrNcE8
  | .c => .jrCE8

/-- CALL cc,a16 (R657). -/
def callCond : Cond → Word → Instr
  | .nz => .callNzA16
  | .z => .callZA16
  | .nc => .callNcA16
  | .c => .callCA16

/-- RET cc (R659). -/
def retCond : Cond → Instr
  | .nz => .retNz
  | .z => .retZ
  | .nc => .retNc
  | .c => .retC

/-- RST y*8 (R661). -/
def rst : Fin 8 → Instr
  | 0 => .rst00
  | 1 => .rst08
  | 2 => .rst10
  | 3 => .rst18
  | 4 => .rst20
  | 5 => .rst28
  | 6 => .rst30
  | 7 => .rst38

/-- The rotates and shifts of a register (R605 to R619). -/
def rotReg : RotOp → Reg8 → Instr
  | .rlc, .b => .rlcB
  | .rlc, .c => .rlcC
  | .rlc, .d => .rlcD
  | .rlc, .e => .rlcE
  | .rlc, .h => .rlcH
  | .rlc, .l => .rlcL
  | .rlc, .a => .rlcA
  | .rrc, .b => .rrcB
  | .rrc, .c => .rrcC
  | .rrc, .d => .rrcD
  | .rrc, .e => .rrcE
  | .rrc, .h => .rrcH
  | .rrc, .l => .rrcL
  | .rrc, .a => .rrcA
  | .rl, .b => .rlB
  | .rl, .c => .rlC
  | .rl, .d => .rlD
  | .rl, .e => .rlE
  | .rl, .h => .rlH
  | .rl, .l => .rlL
  | .rl, .a => .rlA
  | .rr, .b => .rrB
  | .rr, .c => .rrC
  | .rr, .d => .rrD
  | .rr, .e => .rrE
  | .rr, .h => .rrH
  | .rr, .l => .rrL
  | .rr, .a => .rrA
  | .sla, .b => .slaB
  | .sla, .c => .slaC
  | .sla, .d => .slaD
  | .sla, .e => .slaE
  | .sla, .h => .slaH
  | .sla, .l => .slaL
  | .sla, .a => .slaA
  | .sra, .b => .sraB
  | .sra, .c => .sraC
  | .sra, .d => .sraD
  | .sra, .e => .sraE
  | .sra, .h => .sraH
  | .sra, .l => .sraL
  | .sra, .a => .sraA
  | .swap, .b => .swapB
  | .swap, .c => .swapC
  | .swap, .d => .swapD
  | .swap, .e => .swapE
  | .swap, .h => .swapH
  | .swap, .l => .swapL
  | .swap, .a => .swapA
  | .srl, .b => .srlB
  | .srl, .c => .srlC
  | .srl, .d => .srlD
  | .srl, .e => .srlE
  | .srl, .h => .srlH
  | .srl, .l => .srlL
  | .srl, .a => .srlA

/-- The same of the byte at HL (R606 to R620). -/
def rotAtHl : RotOp → Instr
  | .rlc => .rlcAtHl
  | .rrc => .rrcAtHl
  | .rl => .rlAtHl
  | .rr => .rrAtHl
  | .sla => .slaAtHl
  | .sra => .sraAtHl
  | .swap => .swapAtHl
  | .srl => .srlAtHl

/-- BIT b,r (R621). -/
def bitReg : Fin 8 → Reg8 → Instr
  | 0, .b => .bit0B
  | 0, .c => .bit0C
  | 0, .d => .bit0D
  | 0, .e => .bit0E
  | 0, .h => .bit0H
  | 0, .l => .bit0L
  | 0, .a => .bit0A
  | 1, .b => .bit1B
  | 1, .c => .bit1C
  | 1, .d => .bit1D
  | 1, .e => .bit1E
  | 1, .h => .bit1H
  | 1, .l => .bit1L
  | 1, .a => .bit1A
  | 2, .b => .bit2B
  | 2, .c => .bit2C
  | 2, .d => .bit2D
  | 2, .e => .bit2E
  | 2, .h => .bit2H
  | 2, .l => .bit2L
  | 2, .a => .bit2A
  | 3, .b => .bit3B
  | 3, .c => .bit3C
  | 3, .d => .bit3D
  | 3, .e => .bit3E
  | 3, .h => .bit3H
  | 3, .l => .bit3L
  | 3, .a => .bit3A
  | 4, .b => .bit4B
  | 4, .c => .bit4C
  | 4, .d => .bit4D
  | 4, .e => .bit4E
  | 4, .h => .bit4H
  | 4, .l => .bit4L
  | 4, .a => .bit4A
  | 5, .b => .bit5B
  | 5, .c => .bit5C
  | 5, .d => .bit5D
  | 5, .e => .bit5E
  | 5, .h => .bit5H
  | 5, .l => .bit5L
  | 5, .a => .bit5A
  | 6, .b => .bit6B
  | 6, .c => .bit6C
  | 6, .d => .bit6D
  | 6, .e => .bit6E
  | 6, .h => .bit6H
  | 6, .l => .bit6L
  | 6, .a => .bit6A
  | 7, .b => .bit7B
  | 7, .c => .bit7C
  | 7, .d => .bit7D
  | 7, .e => .bit7E
  | 7, .h => .bit7H
  | 7, .l => .bit7L
  | 7, .a => .bit7A

/-- BIT b,(HL) (R622). -/
def bitAtHl : Fin 8 → Instr
  | 0 => .bit0AtHl
  | 1 => .bit1AtHl
  | 2 => .bit2AtHl
  | 3 => .bit3AtHl
  | 4 => .bit4AtHl
  | 5 => .bit5AtHl
  | 6 => .bit6AtHl
  | 7 => .bit7AtHl

/-- RES b,r (R623). -/
def resReg : Fin 8 → Reg8 → Instr
  | 0, .b => .res0B
  | 0, .c => .res0C
  | 0, .d => .res0D
  | 0, .e => .res0E
  | 0, .h => .res0H
  | 0, .l => .res0L
  | 0, .a => .res0A
  | 1, .b => .res1B
  | 1, .c => .res1C
  | 1, .d => .res1D
  | 1, .e => .res1E
  | 1, .h => .res1H
  | 1, .l => .res1L
  | 1, .a => .res1A
  | 2, .b => .res2B
  | 2, .c => .res2C
  | 2, .d => .res2D
  | 2, .e => .res2E
  | 2, .h => .res2H
  | 2, .l => .res2L
  | 2, .a => .res2A
  | 3, .b => .res3B
  | 3, .c => .res3C
  | 3, .d => .res3D
  | 3, .e => .res3E
  | 3, .h => .res3H
  | 3, .l => .res3L
  | 3, .a => .res3A
  | 4, .b => .res4B
  | 4, .c => .res4C
  | 4, .d => .res4D
  | 4, .e => .res4E
  | 4, .h => .res4H
  | 4, .l => .res4L
  | 4, .a => .res4A
  | 5, .b => .res5B
  | 5, .c => .res5C
  | 5, .d => .res5D
  | 5, .e => .res5E
  | 5, .h => .res5H
  | 5, .l => .res5L
  | 5, .a => .res5A
  | 6, .b => .res6B
  | 6, .c => .res6C
  | 6, .d => .res6D
  | 6, .e => .res6E
  | 6, .h => .res6H
  | 6, .l => .res6L
  | 6, .a => .res6A
  | 7, .b => .res7B
  | 7, .c => .res7C
  | 7, .d => .res7D
  | 7, .e => .res7E
  | 7, .h => .res7H
  | 7, .l => .res7L
  | 7, .a => .res7A

/-- RES b,(HL) (R624). -/
def resAtHl : Fin 8 → Instr
  | 0 => .res0AtHl
  | 1 => .res1AtHl
  | 2 => .res2AtHl
  | 3 => .res3AtHl
  | 4 => .res4AtHl
  | 5 => .res5AtHl
  | 6 => .res6AtHl
  | 7 => .res7AtHl

/-- SET b,r (R625). -/
def setReg : Fin 8 → Reg8 → Instr
  | 0, .b => .set0B
  | 0, .c => .set0C
  | 0, .d => .set0D
  | 0, .e => .set0E
  | 0, .h => .set0H
  | 0, .l => .set0L
  | 0, .a => .set0A
  | 1, .b => .set1B
  | 1, .c => .set1C
  | 1, .d => .set1D
  | 1, .e => .set1E
  | 1, .h => .set1H
  | 1, .l => .set1L
  | 1, .a => .set1A
  | 2, .b => .set2B
  | 2, .c => .set2C
  | 2, .d => .set2D
  | 2, .e => .set2E
  | 2, .h => .set2H
  | 2, .l => .set2L
  | 2, .a => .set2A
  | 3, .b => .set3B
  | 3, .c => .set3C
  | 3, .d => .set3D
  | 3, .e => .set3E
  | 3, .h => .set3H
  | 3, .l => .set3L
  | 3, .a => .set3A
  | 4, .b => .set4B
  | 4, .c => .set4C
  | 4, .d => .set4D
  | 4, .e => .set4E
  | 4, .h => .set4H
  | 4, .l => .set4L
  | 4, .a => .set4A
  | 5, .b => .set5B
  | 5, .c => .set5C
  | 5, .d => .set5D
  | 5, .e => .set5E
  | 5, .h => .set5H
  | 5, .l => .set5L
  | 5, .a => .set5A
  | 6, .b => .set6B
  | 6, .c => .set6C
  | 6, .d => .set6D
  | 6, .e => .set6E
  | 6, .h => .set6H
  | 6, .l => .set6L
  | 6, .a => .set6A
  | 7, .b => .set7B
  | 7, .c => .set7C
  | 7, .d => .set7D
  | 7, .e => .set7E
  | 7, .h => .set7H
  | 7, .l => .set7L
  | 7, .a => .set7A

/-- SET b,(HL) (R626). -/
def setAtHl : Fin 8 → Instr
  | 0 => .set0AtHl
  | 1 => .set1AtHl
  | 2 => .set2AtHl
  | 3 => .set3AtHl
  | 4 => .set4AtHl
  | 5 => .set5AtHl
  | 6 => .set6AtHl
  | 7 => .set7AtHl

/-- The eleven illegal opcodes (R320, R704), each with its byte. -/
def illegalOpcodes : List (Instr × Byte) :=
  [(.illegalD3, 0xD3),
   (.illegalDB, 0xDB),
   (.illegalDD, 0xDD),
   (.illegalE3, 0xE3),
   (.illegalE4, 0xE4),
   (.illegalEB, 0xEB),
   (.illegalEC, 0xEC),
   (.illegalED, 0xED),
   (.illegalF4, 0xF4),
   (.illegalFC, 0xFC),
   (.illegalFD, 0xFD)]

end Instr

end Sys2Proof
end

