-- ==== Sys2Proof/WellFormed.lean ====
section
/-! DEFINITION. Which terms of Instr are instructions of the machine. An operand's type is exactly the range its field admits
(R303 to R305), so no operand can be out of range, and one check is left. -/

namespace Sys2Proof

/-- "0xCB is a prefix, not an instruction" (R313): the row PREFIX_CB of the opcode table has a constructor and a meaning (R713), but
a CB prefix and its sub-opcode together are the instruction of the CB map that the sub-opcode selects. -/
def Instr.isPrefixRow : Instr → Bool
  | .prefixCb _ => true
  | _ => false

/-- An instruction of the machine. -/
def Instr.wellFormed (i : Instr) : Bool := !i.isPrefixRow

end Sys2Proof
end

