-- ==== Sys2Proof/Decode.lean ====
section
/-! DEFINITION. The decoder and the encoder (spec/30_encoding.md). The decoder is written from the two opcode maps R310 and R312,
row by row; the encoder from the "encoding" column of spec/opcode_table.json, bit by bit. -/

namespace Sys2Proof

open Machine (pair hiByte loByte)

/-- What a cell of the opcode map says of the bytes that follow the opcode (R300): the instruction they make. -/
inductive Format
  /-- Formats op and illegal: one byte. -/
  | op (i : Instr)
  /-- Formats op_n8 and op_e8: one operand byte. -/
  | op8 (f : Byte → Instr)
  /-- Format op_n16: two operand bytes, low byte first. -/
  | op16 (f : Word → Instr)
  /-- The CB prefix (R313): one more byte selects the row of the CB map. -/
  | cb

/-- Row 0 of the opcode map R310. -/
def opcodeRow0 : Vector Format 16 :=
  #v[.op .nop, .op16 .ldBcN16, .op .ldAtBcA, .op .incBc, .op .incB, .op .decB, .op8 .ldBN8, .op .rlca,
     .op16 .ldAtA16Sp, .op .addHlBc, .op .ldAAtBc, .op .decBc, .op .incC, .op .decC, .op8 .ldCN8, .op .rrca]

/-- Row 1 of the opcode map R310. -/
def opcodeRow1 : Vector Format 16 :=
  #v[.op8 .stop, .op16 .ldDeN16, .op .ldAtDeA, .op .incDe, .op .incD, .op .decD, .op8 .ldDN8, .op .rla, .op8 .jrE8,
     .op .addHlDe, .op .ldAAtDe, .op .decDe, .op .incE, .op .decE, .op8 .ldEN8, .op .rra]

/-- Row 2 of the opcode map R310. -/
def opcodeRow2 : Vector Format 16 :=
  #v[.op8 .jrNzE8, .op16 .ldHlN16, .op .ldAtHlIncA, .op .incHl, .op .incH, .op .decH, .op8 .ldHN8, .op .daa,
     .op8 .jrZE8, .op .addHlHl, .op .ldAAtHlInc, .op .decHl, .op .incL, .op .decL, .op8 .ldLN8, .op .cpl]

/-- Row 3 of the opcode map R310. -/
def opcodeRow3 : Vector Format 16 :=
  #v[.op8 .jrNcE8, .op16 .ldSpN16, .op .ldAtHlDecA, .op .incSp, .op .incAtHl, .op .decAtHl, .op8 .ldAtHlN8,
     .op .scf, .op8 .jrCE8, .op .addHlSp, .op .ldAAtHlDec, .op .decSp, .op .incA, .op .decA, .op8 .ldAN8, .op .ccf]

/-- Row 4 of the opcode map R310. -/
def opcodeRow4 : Vector Format 16 :=
  #v[.op .ldBB, .op .ldBC, .op .ldBD, .op .ldBE, .op .ldBH, .op .ldBL, .op .ldBAtHl, .op .ldBA, .op .ldCB,
     .op .ldCC, .op .ldCD, .op .ldCE, .op .ldCH, .op .ldCL, .op .ldCAtHl, .op .ldCA]

/-- Row 5 of the opcode map R310. -/
def opcodeRow5 : Vector Format 16 :=
  #v[.op .ldDB, .op .ldDC, .op .ldDD, .op .ldDE, .op .ldDH, .op .ldDL, .op .ldDAtHl, .op .ldDA, .op .ldEB,
     .op .ldEC, .op .ldED, .op .ldEE, .op .ldEH, .op .ldEL, .op .ldEAtHl, .op .ldEA]

/-- Row 6 of the opcode map R310. -/
def opcodeRow6 : Vector Format 16 :=
  #v[.op .ldHB, .op .ldHC, .op .ldHD, .op .ldHE, .op .ldHH, .op .ldHL, .op .ldHAtHl, .op .ldHA, .op .ldLB,
     .op .ldLC, .op .ldLD, .op .ldLE, .op .ldLH, .op .ldLL, .op .ldLAtHl, .op .ldLA]

/-- Row 7 of the opcode map R310. -/
def opcodeRow7 : Vector Format 16 :=
  #v[.op .ldAtHlB, .op .ldAtHlC, .op .ldAtHlD, .op .ldAtHlE, .op .ldAtHlH, .op .ldAtHlL, .op .halt, .op .ldAtHlA,
     .op .ldAB, .op .ldAC, .op .ldAD, .op .ldAE, .op .ldAH, .op .ldAL, .op .ldAAtHl, .op .ldAA]

/-- Row 8 of the opcode map R310. -/
def opcodeRow8 : Vector Format 16 :=
  #v[.op .addAB, .op .addAC, .op .addAD, .op .addAE, .op .addAH, .op .addAL, .op .addAAtHl, .op .addAA, .op .adcAB,
     .op .adcAC, .op .adcAD, .op .adcAE, .op .adcAH, .op .adcAL, .op .adcAAtHl, .op .adcAA]

/-- Row 9 of the opcode map R310. -/
def opcodeRow9 : Vector Format 16 :=
  #v[.op .subB, .op .subC, .op .subD, .op .subE, .op .subH, .op .subL, .op .subAtHl, .op .subA, .op .sbcAB,
     .op .sbcAC, .op .sbcAD, .op .sbcAE, .op .sbcAH, .op .sbcAL, .op .sbcAAtHl, .op .sbcAA]

/-- Row A of the opcode map R310. -/
def opcodeRowA : Vector Format 16 :=
  #v[.op .andB, .op .andC, .op .andD, .op .andE, .op .andH, .op .andL, .op .andAtHl, .op .andA, .op .xorB,
     .op .xorC, .op .xorD, .op .xorE, .op .xorH, .op .xorL, .op .xorAtHl, .op .xorA]

/-- Row B of the opcode map R310. -/
def opcodeRowB : Vector Format 16 :=
  #v[.op .orB, .op .orC, .op .orD, .op .orE, .op .orH, .op .orL, .op .orAtHl, .op .orA, .op .cpB, .op .cpC,
     .op .cpD, .op .cpE, .op .cpH, .op .cpL, .op .cpAtHl, .op .cpA]

/-- Row C of the opcode map R310. -/
def opcodeRowC : Vector Format 16 :=
  #v[.op .retNz, .op .popBc, .op16 .jpNzA16, .op16 .jpA16, .op16 .callNzA16, .op .pushBc, .op8 .addAN8, .op .rst00,
     .op .retZ, .op .ret, .op16 .jpZA16, .cb, .op16 .callZA16, .op16 .callA16, .op8 .adcAN8, .op .rst08]

/-- Row D of the opcode map R310. -/
def opcodeRowD : Vector Format 16 :=
  #v[.op .retNc, .op .popDe, .op16 .jpNcA16, .op .illegalD3, .op16 .callNcA16, .op .pushDe, .op8 .subN8, .op .rst10,
     .op .retC, .op .reti, .op16 .jpCA16, .op .illegalDB, .op16 .callCA16, .op .illegalDD, .op8 .sbcAN8, .op .rst18]

/-- Row E of the opcode map R310. -/
def opcodeRowE : Vector Format 16 :=
  #v[.op8 .ldhAtA8A, .op .popHl, .op .ldAtCA, .op .illegalE3, .op .illegalE4, .op .pushHl, .op8 .andN8, .op .rst20,
     .op8 .addSpE8, .op .jpHl, .op16 .ldAtA16A, .op .illegalEB, .op .illegalEC, .op .illegalED, .op8 .xorN8,
     .op .rst28]

/-- Row F of the opcode map R310. -/
def opcodeRowF : Vector Format 16 :=
  #v[.op8 .ldhAAtA8, .op .popAf, .op .ldAAtC, .op .di, .op .illegalF4, .op .pushAf, .op8 .orN8, .op .rst30,
     .op8 .ldHlSpE8, .op .ldSpHl, .op16 .ldAAtA16, .op .ei, .op .illegalFC, .op .illegalFD, .op8 .cpN8, .op .rst38]

/-- The unprefixed opcode map (R310): row = high nibble, column = low nibble. -/
def opcodeMap : Vector (Vector Format 16) 16 :=
  #v[opcodeRow0, opcodeRow1, opcodeRow2, opcodeRow3, opcodeRow4, opcodeRow5, opcodeRow6, opcodeRow7, opcodeRow8,
     opcodeRow9, opcodeRowA, opcodeRowB, opcodeRowC, opcodeRowD, opcodeRowE, opcodeRowF]

/-- Row 0 of the CB map R312. -/
def cbRow0 : Vector Instr 16 :=
  #v[.rlcB, .rlcC, .rlcD, .rlcE, .rlcH, .rlcL, .rlcAtHl, .rlcA, .rrcB, .rrcC, .rrcD, .rrcE, .rrcH, .rrcL, .rrcAtHl,
     .rrcA]

/-- Row 1 of the CB map R312. -/
def cbRow1 : Vector Instr 16 :=
  #v[.rlB, .rlC, .rlD, .rlE, .rlH, .rlL, .rlAtHl, .rlA, .rrB, .rrC, .rrD, .rrE, .rrH, .rrL, .rrAtHl, .rrA]

/-- Row 2 of the CB map R312. -/
def cbRow2 : Vector Instr 16 :=
  #v[.slaB, .slaC, .slaD, .slaE, .slaH, .slaL, .slaAtHl, .slaA, .sraB, .sraC, .sraD, .sraE, .sraH, .sraL, .sraAtHl,
     .sraA]

/-- Row 3 of the CB map R312. -/
def cbRow3 : Vector Instr 16 :=
  #v[.swapB, .swapC, .swapD, .swapE, .swapH, .swapL, .swapAtHl, .swapA, .srlB, .srlC, .srlD, .srlE, .srlH, .srlL,
     .srlAtHl, .srlA]

/-- Row 4 of the CB map R312. -/
def cbRow4 : Vector Instr 16 :=
  #v[.bit0B, .bit0C, .bit0D, .bit0E, .bit0H, .bit0L, .bit0AtHl, .bit0A, .bit1B, .bit1C, .bit1D, .bit1E, .bit1H,
     .bit1L, .bit1AtHl, .bit1A]

/-- Row 5 of the CB map R312. -/
def cbRow5 : Vector Instr 16 :=
  #v[.bit2B, .bit2C, .bit2D, .bit2E, .bit2H, .bit2L, .bit2AtHl, .bit2A, .bit3B, .bit3C, .bit3D, .bit3E, .bit3H,
     .bit3L, .bit3AtHl, .bit3A]

/-- Row 6 of the CB map R312. -/
def cbRow6 : Vector Instr 16 :=
  #v[.bit4B, .bit4C, .bit4D, .bit4E, .bit4H, .bit4L, .bit4AtHl, .bit4A, .bit5B, .bit5C, .bit5D, .bit5E, .bit5H,
     .bit5L, .bit5AtHl, .bit5A]

/-- Row 7 of the CB map R312. -/
def cbRow7 : Vector Instr 16 :=
  #v[.bit6B, .bit6C, .bit6D, .bit6E, .bit6H, .bit6L, .bit6AtHl, .bit6A, .bit7B, .bit7C, .bit7D, .bit7E, .bit7H,
     .bit7L, .bit7AtHl, .bit7A]

/-- Row 8 of the CB map R312. -/
def cbRow8 : Vector Instr 16 :=
  #v[.res0B, .res0C, .res0D, .res0E, .res0H, .res0L, .res0AtHl, .res0A, .res1B, .res1C, .res1D, .res1E, .res1H,
     .res1L, .res1AtHl, .res1A]

/-- Row 9 of the CB map R312. -/
def cbRow9 : Vector Instr 16 :=
  #v[.res2B, .res2C, .res2D, .res2E, .res2H, .res2L, .res2AtHl, .res2A, .res3B, .res3C, .res3D, .res3E, .res3H,
     .res3L, .res3AtHl, .res3A]

/-- Row A of the CB map R312. -/
def cbRowA : Vector Instr 16 :=
  #v[.res4B, .res4C, .res4D, .res4E, .res4H, .res4L, .res4AtHl, .res4A, .res5B, .res5C, .res5D, .res5E, .res5H,
     .res5L, .res5AtHl, .res5A]

/-- Row B of the CB map R312. -/
def cbRowB : Vector Instr 16 :=
  #v[.res6B, .res6C, .res6D, .res6E, .res6H, .res6L, .res6AtHl, .res6A, .res7B, .res7C, .res7D, .res7E, .res7H,
     .res7L, .res7AtHl, .res7A]

/-- Row C of the CB map R312. -/
def cbRowC : Vector Instr 16 :=
  #v[.set0B, .set0C, .set0D, .set0E, .set0H, .set0L, .set0AtHl, .set0A, .set1B, .set1C, .set1D, .set1E, .set1H,
     .set1L, .set1AtHl, .set1A]

/-- Row D of the CB map R312. -/
def cbRowD : Vector Instr 16 :=
  #v[.set2B, .set2C, .set2D, .set2E, .set2H, .set2L, .set2AtHl, .set2A, .set3B, .set3C, .set3D, .set3E, .set3H,
     .set3L, .set3AtHl, .set3A]

/-- Row E of the CB map R312. -/
def cbRowE : Vector Instr 16 :=
  #v[.set4B, .set4C, .set4D, .set4E, .set4H, .set4L, .set4AtHl, .set4A, .set5B, .set5C, .set5D, .set5E, .set5H,
     .set5L, .set5AtHl, .set5A]

/-- Row F of the CB map R312. -/
def cbRowF : Vector Instr 16 :=
  #v[.set6B, .set6C, .set6D, .set6E, .set6H, .set6L, .set6AtHl, .set6A, .set7B, .set7C, .set7D, .set7E, .set7H,
     .set7L, .set7AtHl, .set7A]

/-- The CB-prefixed map (R312). -/
def cbMap : Vector (Vector Instr 16) 16 :=
  #v[cbRow0, cbRow1, cbRow2, cbRow3, cbRow4, cbRow5, cbRow6, cbRow7, cbRow8, cbRow9, cbRowA, cbRowB, cbRowC, cbRowD,
     cbRowE, cbRowF]

/-- The high nibble of an opcode byte: its row in the maps. -/
def highNibble (b : Byte) : Fin 16 := (b.extractLsb' 4 4).toFin

/-- The low nibble: its column. -/
def lowNibble (b : Byte) : Fin 16 := (b.extractLsb' 0 4).toFin

/-- The cell of the opcode map at an opcode byte (R703). -/
def formatOf (op : Byte) : Format := (opcodeMap.get (highNibble op)).get (lowNibble op)

/-- The CB row a sub-opcode selects (R604, R713). Every one of the 256 values is defined. -/
def cbInstr (sub : Byte) : Instr := (cbMap.get (highNibble sub)).get (lowNibble sub)

/-- Why a list of bytes holds no instruction. Every opcode byte is a row of the table (the eleven illegal ones too, whose meaning is
the fault of R704), so only a list that is too short is rejected. -/
inductive DecodeError
  /-- No byte at all. -/
  | noOpcode
  /-- The list ends before the operand bytes of this opcode. -/
  | missingOperand (op : Byte)
  deriving DecidableEq, Repr

/-- Decode the instruction at the head of a list of bytes, in increasing address order (R214, R300, R313), with the bytes
after it. -/
def decode : List Byte → Except DecodeError (Instr × List Byte)
  | [] => .error .noOpcode
  | op :: rest =>
    match formatOf op, rest with
    | .op i, _ => .ok (i, rest)
    | .op8 f, n :: rest => .ok (f n, rest)
    | .op16 f, lo :: hi :: rest => .ok (f (pair hi lo), rest)
    | .cb, sub :: rest => .ok (cbInstr sub, rest)
    | _, _ => .error (.missingOperand op)

/-- The bytes of an instruction, the lowest address first, from the "encoding" column of spec/opcode_table.json. -/
def encode : Instr → List Byte
  | .nop => [0b00000000]
  | .ldBcN16 w => [0b00000001, loByte w, hiByte w]
  | .ldAtBcA => [0b00000010]
  | .incBc => [0b00000011]
  | .incB => [0b00000100]
  | .decB => [0b00000101]
  | .ldBN8 n => [0b00000110, n]
  | .rlca => [0b00000111]
  | .ldAtA16Sp w => [0b00001000, loByte w, hiByte w]
  | .addHlBc => [0b00001001]
  | .ldAAtBc => [0b00001010]
  | .decBc => [0b00001011]
  | .incC => [0b00001100]
  | .decC => [0b00001101]
  | .ldCN8 n => [0b00001110, n]
  | .rrca => [0b00001111]
  | .stop n => [0b00010000, n]
  | .ldDeN16 w => [0b00010001, loByte w, hiByte w]
  | .ldAtDeA => [0b00010010]
  | .incDe => [0b00010011]
  | .incD => [0b00010100]
  | .decD => [0b00010101]
  | .ldDN8 n => [0b00010110, n]
  | .rla => [0b00010111]
  | .jrE8 n => [0b00011000, n]
  | .addHlDe => [0b00011001]
  | .ldAAtDe => [0b00011010]
  | .decDe => [0b00011011]
  | .incE => [0b00011100]
  | .decE => [0b00011101]
  | .ldEN8 n => [0b00011110, n]
  | .rra => [0b00011111]
  | .jrNzE8 n => [0b00100000, n]
  | .ldHlN16 w => [0b00100001, loByte w, hiByte w]
  | .ldAtHlIncA => [0b00100010]
  | .incHl => [0b00100011]
  | .incH => [0b00100100]
  | .decH => [0b00100101]
  | .ldHN8 n => [0b00100110, n]
  | .daa => [0b00100111]
  | .jrZE8 n => [0b00101000, n]
  | .addHlHl => [0b00101001]
  | .ldAAtHlInc => [0b00101010]
  | .decHl => [0b00101011]
  | .incL => [0b00101100]
  | .decL => [0b00101101]
  | .ldLN8 n => [0b00101110, n]
  | .cpl => [0b00101111]
  | .jrNcE8 n => [0b00110000, n]
  | .ldSpN16 w => [0b00110001, loByte w, hiByte w]
  | .ldAtHlDecA => [0b00110010]
  | .incSp => [0b00110011]
  | .incAtHl => [0b00110100]
  | .decAtHl => [0b00110101]
  | .ldAtHlN8 n => [0b00110110, n]
  | .scf => [0b00110111]
  | .jrCE8 n => [0b00111000, n]
  | .addHlSp => [0b00111001]
  | .ldAAtHlDec => [0b00111010]
  | .decSp => [0b00111011]
  | .incA => [0b00111100]
  | .decA => [0b00111101]
  | .ldAN8 n => [0b00111110, n]
  | .ccf => [0b00111111]
  | .ldBB => [0b01000000]
  | .ldBC => [0b01000001]
  | .ldBD => [0b01000010]
  | .ldBE => [0b01000011]
  | .ldBH => [0b01000100]
  | .ldBL => [0b01000101]
  | .ldBAtHl => [0b01000110]
  | .ldBA => [0b01000111]
  | .ldCB => [0b01001000]
  | .ldCC => [0b01001001]
  | .ldCD => [0b01001010]
  | .ldCE => [0b01001011]
  | .ldCH => [0b01001100]
  | .ldCL => [0b01001101]
  | .ldCAtHl => [0b01001110]
  | .ldCA => [0b01001111]
  | .ldDB => [0b01010000]
  | .ldDC => [0b01010001]
  | .ldDD => [0b01010010]
  | .ldDE => [0b01010011]
  | .ldDH => [0b01010100]
  | .ldDL => [0b01010101]
  | .ldDAtHl => [0b01010110]
  | .ldDA => [0b01010111]
  | .ldEB => [0b01011000]
  | .ldEC => [0b01011001]
  | .ldED => [0b01011010]
  | .ldEE => [0b01011011]
  | .ldEH => [0b01011100]
  | .ldEL => [0b01011101]
  | .ldEAtHl => [0b01011110]
  | .ldEA => [0b01011111]
  | .ldHB => [0b01100000]
  | .ldHC => [0b01100001]
  | .ldHD => [0b01100010]
  | .ldHE => [0b01100011]
  | .ldHH => [0b01100100]
  | .ldHL => [0b01100101]
  | .ldHAtHl => [0b01100110]
  | .ldHA => [0b01100111]
  | .ldLB => [0b01101000]
  | .ldLC => [0b01101001]
  | .ldLD => [0b01101010]
  | .ldLE => [0b01101011]
  | .ldLH => [0b01101100]
  | .ldLL => [0b01101101]
  | .ldLAtHl => [0b01101110]
  | .ldLA => [0b01101111]
  | .ldAtHlB => [0b01110000]
  | .ldAtHlC => [0b01110001]
  | .ldAtHlD => [0b01110010]
  | .ldAtHlE => [0b01110011]
  | .ldAtHlH => [0b01110100]
  | .ldAtHlL => [0b01110101]
  | .halt => [0b01110110]
  | .ldAtHlA => [0b01110111]
  | .ldAB => [0b01111000]
  | .ldAC => [0b01111001]
  | .ldAD => [0b01111010]
  | .ldAE => [0b01111011]
  | .ldAH => [0b01111100]
  | .ldAL => [0b01111101]
  | .ldAAtHl => [0b01111110]
  | .ldAA => [0b01111111]
  | .addAB => [0b10000000]
  | .addAC => [0b10000001]
  | .addAD => [0b10000010]
  | .addAE => [0b10000011]
  | .addAH => [0b10000100]
  | .addAL => [0b10000101]
  | .addAAtHl => [0b10000110]
  | .addAA => [0b10000111]
  | .adcAB => [0b10001000]
  | .adcAC => [0b10001001]
  | .adcAD => [0b10001010]
  | .adcAE => [0b10001011]
  | .adcAH => [0b10001100]
  | .adcAL => [0b10001101]
  | .adcAAtHl => [0b10001110]
  | .adcAA => [0b10001111]
  | .subB => [0b10010000]
  | .subC => [0b10010001]
  | .subD => [0b10010010]
  | .subE => [0b10010011]
  | .subH => [0b10010100]
  | .subL => [0b10010101]
  | .subAtHl => [0b10010110]
  | .subA => [0b10010111]
  | .sbcAB => [0b10011000]
  | .sbcAC => [0b10011001]
  | .sbcAD => [0b10011010]
  | .sbcAE => [0b10011011]
  | .sbcAH => [0b10011100]
  | .sbcAL => [0b10011101]
  | .sbcAAtHl => [0b10011110]
  | .sbcAA => [0b10011111]
  | .andB => [0b10100000]
  | .andC => [0b10100001]
  | .andD => [0b10100010]
  | .andE => [0b10100011]
  | .andH => [0b10100100]
  | .andL => [0b10100101]
  | .andAtHl => [0b10100110]
  | .andA => [0b10100111]
  | .xorB => [0b10101000]
  | .xorC => [0b10101001]
  | .xorD => [0b10101010]
  | .xorE => [0b10101011]
  | .xorH => [0b10101100]
  | .xorL => [0b10101101]
  | .xorAtHl => [0b10101110]
  | .xorA => [0b10101111]
  | .orB => [0b10110000]
  | .orC => [0b10110001]
  | .orD => [0b10110010]
  | .orE => [0b10110011]
  | .orH => [0b10110100]
  | .orL => [0b10110101]
  | .orAtHl => [0b10110110]
  | .orA => [0b10110111]
  | .cpB => [0b10111000]
  | .cpC => [0b10111001]
  | .cpD => [0b10111010]
  | .cpE => [0b10111011]
  | .cpH => [0b10111100]
  | .cpL => [0b10111101]
  | .cpAtHl => [0b10111110]
  | .cpA => [0b10111111]
  | .retNz => [0b11000000]
  | .popBc => [0b11000001]
  | .jpNzA16 w => [0b11000010, loByte w, hiByte w]
  | .jpA16 w => [0b11000011, loByte w, hiByte w]
  | .callNzA16 w => [0b11000100, loByte w, hiByte w]
  | .pushBc => [0b11000101]
  | .addAN8 n => [0b11000110, n]
  | .rst00 => [0b11000111]
  | .retZ => [0b11001000]
  | .ret => [0b11001001]
  | .jpZA16 w => [0b11001010, loByte w, hiByte w]
  | .prefixCb sub => [0b11001011, sub]
  | .callZA16 w => [0b11001100, loByte w, hiByte w]
  | .callA16 w => [0b11001101, loByte w, hiByte w]
  | .adcAN8 n => [0b11001110, n]
  | .rst08 => [0b11001111]
  | .retNc => [0b11010000]
  | .popDe => [0b11010001]
  | .jpNcA16 w => [0b11010010, loByte w, hiByte w]
  | .illegalD3 => [0b11010011]
  | .callNcA16 w => [0b11010100, loByte w, hiByte w]
  | .pushDe => [0b11010101]
  | .subN8 n => [0b11010110, n]
  | .rst10 => [0b11010111]
  | .retC => [0b11011000]
  | .reti => [0b11011001]
  | .jpCA16 w => [0b11011010, loByte w, hiByte w]
  | .illegalDB => [0b11011011]
  | .callCA16 w => [0b11011100, loByte w, hiByte w]
  | .illegalDD => [0b11011101]
  | .sbcAN8 n => [0b11011110, n]
  | .rst18 => [0b11011111]
  | .ldhAtA8A n => [0b11100000, n]
  | .popHl => [0b11100001]
  | .ldAtCA => [0b11100010]
  | .illegalE3 => [0b11100011]
  | .illegalE4 => [0b11100100]
  | .pushHl => [0b11100101]
  | .andN8 n => [0b11100110, n]
  | .rst20 => [0b11100111]
  | .addSpE8 n => [0b11101000, n]
  | .jpHl => [0b11101001]
  | .ldAtA16A w => [0b11101010, loByte w, hiByte w]
  | .illegalEB => [0b11101011]
  | .illegalEC => [0b11101100]
  | .illegalED => [0b11101101]
  | .xorN8 n => [0b11101110, n]
  | .rst28 => [0b11101111]
  | .ldhAAtA8 n => [0b11110000, n]
  | .popAf => [0b11110001]
  | .ldAAtC => [0b11110010]
  | .di => [0b11110011]
  | .illegalF4 => [0b11110100]
  | .pushAf => [0b11110101]
  | .orN8 n => [0b11110110, n]
  | .rst30 => [0b11110111]
  | .ldHlSpE8 n => [0b11111000, n]
  | .ldSpHl => [0b11111001]
  | .ldAAtA16 w => [0b11111010, loByte w, hiByte w]
  | .ei => [0b11111011]
  | .illegalFC => [0b11111100]
  | .illegalFD => [0b11111101]
  | .cpN8 n => [0b11111110, n]
  | .rst38 => [0b11111111]
  | .rlcB => [0b11001011, 0b00000000]
  | .rlcC => [0b11001011, 0b00000001]
  | .rlcD => [0b11001011, 0b00000010]
  | .rlcE => [0b11001011, 0b00000011]
  | .rlcH => [0b11001011, 0b00000100]
  | .rlcL => [0b11001011, 0b00000101]
  | .rlcAtHl => [0b11001011, 0b00000110]
  | .rlcA => [0b11001011, 0b00000111]
  | .rrcB => [0b11001011, 0b00001000]
  | .rrcC => [0b11001011, 0b00001001]
  | .rrcD => [0b11001011, 0b00001010]
  | .rrcE => [0b11001011, 0b00001011]
  | .rrcH => [0b11001011, 0b00001100]
  | .rrcL => [0b11001011, 0b00001101]
  | .rrcAtHl => [0b11001011, 0b00001110]
  | .rrcA => [0b11001011, 0b00001111]
  | .rlB => [0b11001011, 0b00010000]
  | .rlC => [0b11001011, 0b00010001]
  | .rlD => [0b11001011, 0b00010010]
  | .rlE => [0b11001011, 0b00010011]
  | .rlH => [0b11001011, 0b00010100]
  | .rlL => [0b11001011, 0b00010101]
  | .rlAtHl => [0b11001011, 0b00010110]
  | .rlA => [0b11001011, 0b00010111]
  | .rrB => [0b11001011, 0b00011000]
  | .rrC => [0b11001011, 0b00011001]
  | .rrD => [0b11001011, 0b00011010]
  | .rrE => [0b11001011, 0b00011011]
  | .rrH => [0b11001011, 0b00011100]
  | .rrL => [0b11001011, 0b00011101]
  | .rrAtHl => [0b11001011, 0b00011110]
  | .rrA => [0b11001011, 0b00011111]
  | .slaB => [0b11001011, 0b00100000]
  | .slaC => [0b11001011, 0b00100001]
  | .slaD => [0b11001011, 0b00100010]
  | .slaE => [0b11001011, 0b00100011]
  | .slaH => [0b11001011, 0b00100100]
  | .slaL => [0b11001011, 0b00100101]
  | .slaAtHl => [0b11001011, 0b00100110]
  | .slaA => [0b11001011, 0b00100111]
  | .sraB => [0b11001011, 0b00101000]
  | .sraC => [0b11001011, 0b00101001]
  | .sraD => [0b11001011, 0b00101010]
  | .sraE => [0b11001011, 0b00101011]
  | .sraH => [0b11001011, 0b00101100]
  | .sraL => [0b11001011, 0b00101101]
  | .sraAtHl => [0b11001011, 0b00101110]
  | .sraA => [0b11001011, 0b00101111]
  | .swapB => [0b11001011, 0b00110000]
  | .swapC => [0b11001011, 0b00110001]
  | .swapD => [0b11001011, 0b00110010]
  | .swapE => [0b11001011, 0b00110011]
  | .swapH => [0b11001011, 0b00110100]
  | .swapL => [0b11001011, 0b00110101]
  | .swapAtHl => [0b11001011, 0b00110110]
  | .swapA => [0b11001011, 0b00110111]
  | .srlB => [0b11001011, 0b00111000]
  | .srlC => [0b11001011, 0b00111001]
  | .srlD => [0b11001011, 0b00111010]
  | .srlE => [0b11001011, 0b00111011]
  | .srlH => [0b11001011, 0b00111100]
  | .srlL => [0b11001011, 0b00111101]
  | .srlAtHl => [0b11001011, 0b00111110]
  | .srlA => [0b11001011, 0b00111111]
  | .bit0B => [0b11001011, 0b01000000]
  | .bit0C => [0b11001011, 0b01000001]
  | .bit0D => [0b11001011, 0b01000010]
  | .bit0E => [0b11001011, 0b01000011]
  | .bit0H => [0b11001011, 0b01000100]
  | .bit0L => [0b11001011, 0b01000101]
  | .bit0AtHl => [0b11001011, 0b01000110]
  | .bit0A => [0b11001011, 0b01000111]
  | .bit1B => [0b11001011, 0b01001000]
  | .bit1C => [0b11001011, 0b01001001]
  | .bit1D => [0b11001011, 0b01001010]
  | .bit1E => [0b11001011, 0b01001011]
  | .bit1H => [0b11001011, 0b01001100]
  | .bit1L => [0b11001011, 0b01001101]
  | .bit1AtHl => [0b11001011, 0b01001110]
  | .bit1A => [0b11001011, 0b01001111]
  | .bit2B => [0b11001011, 0b01010000]
  | .bit2C => [0b11001011, 0b01010001]
  | .bit2D => [0b11001011, 0b01010010]
  | .bit2E => [0b11001011, 0b01010011]
  | .bit2H => [0b11001011, 0b01010100]
  | .bit2L => [0b11001011, 0b01010101]
  | .bit2AtHl => [0b11001011, 0b01010110]
  | .bit2A => [0b11001011, 0b01010111]
  | .bit3B => [0b11001011, 0b01011000]
  | .bit3C => [0b11001011, 0b01011001]
  | .bit3D => [0b11001011, 0b01011010]
  | .bit3E => [0b11001011, 0b01011011]
  | .bit3H => [0b11001011, 0b01011100]
  | .bit3L => [0b11001011, 0b01011101]
  | .bit3AtHl => [0b11001011, 0b01011110]
  | .bit3A => [0b11001011, 0b01011111]
  | .bit4B => [0b11001011, 0b01100000]
  | .bit4C => [0b11001011, 0b01100001]
  | .bit4D => [0b11001011, 0b01100010]
  | .bit4E => [0b11001011, 0b01100011]
  | .bit4H => [0b11001011, 0b01100100]
  | .bit4L => [0b11001011, 0b01100101]
  | .bit4AtHl => [0b11001011, 0b01100110]
  | .bit4A => [0b11001011, 0b01100111]
  | .bit5B => [0b11001011, 0b01101000]
  | .bit5C => [0b11001011, 0b01101001]
  | .bit5D => [0b11001011, 0b01101010]
  | .bit5E => [0b11001011, 0b01101011]
  | .bit5H => [0b11001011, 0b01101100]
  | .bit5L => [0b11001011, 0b01101101]
  | .bit5AtHl => [0b11001011, 0b01101110]
  | .bit5A => [0b11001011, 0b01101111]
  | .bit6B => [0b11001011, 0b01110000]
  | .bit6C => [0b11001011, 0b01110001]
  | .bit6D => [0b11001011, 0b01110010]
  | .bit6E => [0b11001011, 0b01110011]
  | .bit6H => [0b11001011, 0b01110100]
  | .bit6L => [0b11001011, 0b01110101]
  | .bit6AtHl => [0b11001011, 0b01110110]
  | .bit6A => [0b11001011, 0b01110111]
  | .bit7B => [0b11001011, 0b01111000]
  | .bit7C => [0b11001011, 0b01111001]
  | .bit7D => [0b11001011, 0b01111010]
  | .bit7E => [0b11001011, 0b01111011]
  | .bit7H => [0b11001011, 0b01111100]
  | .bit7L => [0b11001011, 0b01111101]
  | .bit7AtHl => [0b11001011, 0b01111110]
  | .bit7A => [0b11001011, 0b01111111]
  | .res0B => [0b11001011, 0b10000000]
  | .res0C => [0b11001011, 0b10000001]
  | .res0D => [0b11001011, 0b10000010]
  | .res0E => [0b11001011, 0b10000011]
  | .res0H => [0b11001011, 0b10000100]
  | .res0L => [0b11001011, 0b10000101]
  | .res0AtHl => [0b11001011, 0b10000110]
  | .res0A => [0b11001011, 0b10000111]
  | .res1B => [0b11001011, 0b10001000]
  | .res1C => [0b11001011, 0b10001001]
  | .res1D => [0b11001011, 0b10001010]
  | .res1E => [0b11001011, 0b10001011]
  | .res1H => [0b11001011, 0b10001100]
  | .res1L => [0b11001011, 0b10001101]
  | .res1AtHl => [0b11001011, 0b10001110]
  | .res1A => [0b11001011, 0b10001111]
  | .res2B => [0b11001011, 0b10010000]
  | .res2C => [0b11001011, 0b10010001]
  | .res2D => [0b11001011, 0b10010010]
  | .res2E => [0b11001011, 0b10010011]
  | .res2H => [0b11001011, 0b10010100]
  | .res2L => [0b11001011, 0b10010101]
  | .res2AtHl => [0b11001011, 0b10010110]
  | .res2A => [0b11001011, 0b10010111]
  | .res3B => [0b11001011, 0b10011000]
  | .res3C => [0b11001011, 0b10011001]
  | .res3D => [0b11001011, 0b10011010]
  | .res3E => [0b11001011, 0b10011011]
  | .res3H => [0b11001011, 0b10011100]
  | .res3L => [0b11001011, 0b10011101]
  | .res3AtHl => [0b11001011, 0b10011110]
  | .res3A => [0b11001011, 0b10011111]
  | .res4B => [0b11001011, 0b10100000]
  | .res4C => [0b11001011, 0b10100001]
  | .res4D => [0b11001011, 0b10100010]
  | .res4E => [0b11001011, 0b10100011]
  | .res4H => [0b11001011, 0b10100100]
  | .res4L => [0b11001011, 0b10100101]
  | .res4AtHl => [0b11001011, 0b10100110]
  | .res4A => [0b11001011, 0b10100111]
  | .res5B => [0b11001011, 0b10101000]
  | .res5C => [0b11001011, 0b10101001]
  | .res5D => [0b11001011, 0b10101010]
  | .res5E => [0b11001011, 0b10101011]
  | .res5H => [0b11001011, 0b10101100]
  | .res5L => [0b11001011, 0b10101101]
  | .res5AtHl => [0b11001011, 0b10101110]
  | .res5A => [0b11001011, 0b10101111]
  | .res6B => [0b11001011, 0b10110000]
  | .res6C => [0b11001011, 0b10110001]
  | .res6D => [0b11001011, 0b10110010]
  | .res6E => [0b11001011, 0b10110011]
  | .res6H => [0b11001011, 0b10110100]
  | .res6L => [0b11001011, 0b10110101]
  | .res6AtHl => [0b11001011, 0b10110110]
  | .res6A => [0b11001011, 0b10110111]
  | .res7B => [0b11001011, 0b10111000]
  | .res7C => [0b11001011, 0b10111001]
  | .res7D => [0b11001011, 0b10111010]
  | .res7E => [0b11001011, 0b10111011]
  | .res7H => [0b11001011, 0b10111100]
  | .res7L => [0b11001011, 0b10111101]
  | .res7AtHl => [0b11001011, 0b10111110]
  | .res7A => [0b11001011, 0b10111111]
  | .set0B => [0b11001011, 0b11000000]
  | .set0C => [0b11001011, 0b11000001]
  | .set0D => [0b11001011, 0b11000010]
  | .set0E => [0b11001011, 0b11000011]
  | .set0H => [0b11001011, 0b11000100]
  | .set0L => [0b11001011, 0b11000101]
  | .set0AtHl => [0b11001011, 0b11000110]
  | .set0A => [0b11001011, 0b11000111]
  | .set1B => [0b11001011, 0b11001000]
  | .set1C => [0b11001011, 0b11001001]
  | .set1D => [0b11001011, 0b11001010]
  | .set1E => [0b11001011, 0b11001011]
  | .set1H => [0b11001011, 0b11001100]
  | .set1L => [0b11001011, 0b11001101]
  | .set1AtHl => [0b11001011, 0b11001110]
  | .set1A => [0b11001011, 0b11001111]
  | .set2B => [0b11001011, 0b11010000]
  | .set2C => [0b11001011, 0b11010001]
  | .set2D => [0b11001011, 0b11010010]
  | .set2E => [0b11001011, 0b11010011]
  | .set2H => [0b11001011, 0b11010100]
  | .set2L => [0b11001011, 0b11010101]
  | .set2AtHl => [0b11001011, 0b11010110]
  | .set2A => [0b11001011, 0b11010111]
  | .set3B => [0b11001011, 0b11011000]
  | .set3C => [0b11001011, 0b11011001]
  | .set3D => [0b11001011, 0b11011010]
  | .set3E => [0b11001011, 0b11011011]
  | .set3H => [0b11001011, 0b11011100]
  | .set3L => [0b11001011, 0b11011101]
  | .set3AtHl => [0b11001011, 0b11011110]
  | .set3A => [0b11001011, 0b11011111]
  | .set4B => [0b11001011, 0b11100000]
  | .set4C => [0b11001011, 0b11100001]
  | .set4D => [0b11001011, 0b11100010]
  | .set4E => [0b11001011, 0b11100011]
  | .set4H => [0b11001011, 0b11100100]
  | .set4L => [0b11001011, 0b11100101]
  | .set4AtHl => [0b11001011, 0b11100110]
  | .set4A => [0b11001011, 0b11100111]
  | .set5B => [0b11001011, 0b11101000]
  | .set5C => [0b11001011, 0b11101001]
  | .set5D => [0b11001011, 0b11101010]
  | .set5E => [0b11001011, 0b11101011]
  | .set5H => [0b11001011, 0b11101100]
  | .set5L => [0b11001011, 0b11101101]
  | .set5AtHl => [0b11001011, 0b11101110]
  | .set5A => [0b11001011, 0b11101111]
  | .set6B => [0b11001011, 0b11110000]
  | .set6C => [0b11001011, 0b11110001]
  | .set6D => [0b11001011, 0b11110010]
  | .set6E => [0b11001011, 0b11110011]
  | .set6H => [0b11001011, 0b11110100]
  | .set6L => [0b11001011, 0b11110101]
  | .set6AtHl => [0b11001011, 0b11110110]
  | .set6A => [0b11001011, 0b11110111]
  | .set7B => [0b11001011, 0b11111000]
  | .set7C => [0b11001011, 0b11111001]
  | .set7D => [0b11001011, 0b11111010]
  | .set7E => [0b11001011, 0b11111011]
  | .set7H => [0b11001011, 0b11111100]
  | .set7L => [0b11001011, 0b11111101]
  | .set7AtHl => [0b11001011, 0b11111110]
  | .set7A => [0b11001011, 0b11111111]

/-- The bytes of a word of `nbits` bits as spec/opcode_table.json numbers them, the lowest address first, with zero bytes
above. The table numbers a CB row as the 16-bit number 0xCB00 + s (R604): the prefix, its byte at the lower address, is bits
15:8. Every other row is numbered with bit 0 the least significant bit of its first byte. notes/assumptions/12.md. -/
def tableBytes (nbits w : Nat) : List Byte :=
  let w := w % 2 ^ nbits
  if nbits = 16 ∧ w / 256 = 0xCB then [0xCB, BitVec.ofNat 8 w, 0]
  else [BitVec.ofNat 8 w, BitVec.ofNat 8 (w / 0x100), BitVec.ofNat 8 (w / 0x10000)]

/-- The instruction the decoder reads from a word of the opcode table. -/
def decodeTableWord (nbits w : Nat) : Option Instr :=
  match decode (tableBytes nbits w) with
  | .ok (i, _) => some i
  | .error _ => none

end Sys2Proof
end

