-- ==== Sys2Proof/Config.lean ====
section
/-! DEFINITION. The named parameters of spec/00_scope.md R10 that are fixed for the whole run, and the fixed sizes of
R9. The spec leaves no value of this machine free: the block is deterministic (R884), so this file holds no opaque
constant. The parameters that vary from run to run (ROM, the INIT_* memory contents, INPUT, UNMAPPED_POLICY) are data
of State. -/

namespace Sys2Proof

/-- UNMAPPED_POLICY (R10, R203, D4): what an access to an address no device accepts does. One value for the whole
run: it is a field of State that no step changes. -/
inductive UnmappedPolicy
  /-- A read returns 0xFF, a write changes nothing: the value this spec gives the parameter. -/
  | openBus
  /-- Both raise BusRoutingError(addr). -/
  | fault
  deriving DecidableEq, Repr

namespace Config

/-- DMA_CYCLES_PER_BYTE (R10, D36). -/
def dmaCyclesPerByte : Nat := 1

/-- CYCLES_PER_FRAME (R10, D47). -/
def cyclesPerFrame : Nat := 70224

/-- CPU_HZ (R10, D1): used by pacing only, so by nothing in this model (R885). -/
def cpuHz : Nat := 4194304

/-- Visible lines and columns of the framebuffer (R9). -/
def screenRows : Nat := 144

def screenCols : Nat := 160

/-- Lines of a frame: LY runs over 0..153 (R121). -/
def frameLines : Nat := 154

/-- Bytes of OAM, and so of one OAM DMA transfer (R9, R861). -/
def oamBytes : Nat := 160

/-- MBC1 bank sizes: ROM 16 KiB, RAM 8 KiB (R9). -/
def romBankSize : Nat := 0x4000

def ramBankSize : Nat := 0x2000

end Config

end Sys2Proof
end

