-- ==== Sys2Proof/Machine/Memory.lean ====
section
/-! DEFINITION. The byte arrays of the block as ONE list of (cell, byte) pairs in canonical form. A CELL is one physical
byte of the arrays R130 and R132 name. The cells of VRAM, WRAM, OAM and HRAM are numbered by their own bus
address (echo RAM has no cell of its own, R205); the cartridge RAM's by cramBase + offset and the ROM image's by romBase +
offset, since banking lets one bus address reach many of them (R262 to R265). Which cell a bus address reaches is State.cellOf in
Sys2Proof/Machine/Bus.lean. -/

namespace Sys2Proof.Machine

/-- The memory of the block: the cells that hold something else than `Memory.unlisted` gives, in rising order. -/
abbrev Memory := List Host.Cell

/-- First cell of the cartridge RAM (CRAM, R130): at most 128 KiB. -/
def cramBase : Nat := 0x10000

/-- First cell of the ROM image (R130): at most 8 MiB. -/
def romBase : Nat := 0x100000

/-- What a cell that is not listed reads as.
A ROM cell that is not listed reads 0xFF: "A physical ROM offset at or beyond the image length reads 0xFF" (R253).
A RAM cell that is not listed reads 0x00: the spec leaves INIT_* open (R132, D43) and takes all 0x00 in its vectors.
DESIGN CHOICE, unsafe: notes/assumptions/1.md. -/
def Memory.unlisted (k : Nat) : Byte := if romBase ≤ k then 0xFF else 0x00

/-- The byte of cell `k`. -/
def Memory.read : Memory → Nat → Byte
  | [], k => Memory.unlisted k
  | c :: m, k => if c.1 = k then c.2 else Memory.read m k

/-- The memory without an entry for cell `k`. -/
def Memory.erase (m : Memory) (k : Nat) : Memory := m.filter fun c => c.1 != k

/-- The memory with the entry `(k, v)` put at its place in the rising order. -/
def Memory.insert : Memory → Nat → Byte → Memory
  | [], k, v => [(k, v)]
  | c :: m, k, v => if k < c.1 then (k, v) :: c :: m else c :: Memory.insert m k v

/-- Store `v` in cell `k`. The canonical form is kept: storing what the unlisted cell reads as removes the entry. -/
def Memory.write (m : Memory) (k : Nat) (v : Byte) : Memory :=
  if v = Memory.unlisted k then m.erase k else (m.erase k).insert k v

/-- Store the bytes of a list in the cells from `k` on. -/
def Memory.writeBytes (m : Memory) (k : Nat) : List Byte → Memory
  | [] => m
  | v :: vs => Memory.writeBytes (m.write k v) (k + 1) vs

/-- The canonical form: cells strictly rising, none listed with the value an unlisted cell reads as. -/
abbrev Memory.wf (m : Memory) : Prop :=
  m.Pairwise (fun c d => c.1 < d.1) ∧ ∀ c ∈ m, c.2 ≠ Memory.unlisted c.1

end Sys2Proof.Machine
end

