-- ==== Sys2Proof/Machine/State.lean ====
section
/-! DEFINITION. Every piece of state the spec gives the block (spec/10_state.md, spec/60_exceptions.md), as plain data,
with the faults and refusals a step can answer, and the state after reset (R160, R900). INVENTORY.md, heading State, lists each field
with its rule and its reset value. -/

namespace Sys2Proof.Machine

/-- The CPU register file (R100, R103): seven 8-bit general registers, F, SP and PC. F bits 3:0 do not exist and read 0
(R102): every write of F goes through State.setF, which masks them. -/
structure Regs where
  a : Byte
  f : Byte
  b : Byte
  c : Byte
  d : Byte
  e : Byte
  h : Byte
  l : Byte
  sp : Word
  pc : Word
  deriving DecidableEq, Repr

/-- The timer (R113 to R116): DIV, TIMA, TMA, TAC and the two hidden accumulators DIV_ACC and TIMA_ACC. -/
structure Timer where
  div : Byte
  tima : Byte
  tma : Byte
  tac : Byte
  divAcc : Nat
  timaAcc : Nat
  deriving DecidableEq, Repr

/-- MODE of the PPU (R125, R841). -/
inductive PpuMode
  /-- Mode 0, 204 dots. -/
  | hblank
  /-- Mode 1, 456 dots per line. -/
  | vblank
  /-- Mode 2, 80 dots. -/
  | oamScan
  /-- Mode 3, 172 dots. -/
  | draw
  deriving DecidableEq, Repr

/-- FB (R125): 144 rows of 160 columns of values 0-3. -/
abbrev Frame := Vector (Vector (BitVec 2) 160) 144

/-- FB with every pixel 0 (R160, R849). -/
def blankFrame : Frame := Vector.replicate 144 (Vector.replicate 160 0)

/-- The PPU's registers (R117 to R124; the DMA register stands in `Dma`) and hidden state (R125). STAT is held as its
stored bits 7:3; bits 2:0 are COINC and MODE (R119). -/
structure Ppu where
  lcdc : Byte
  statHi : BitVec 5
  scy : Byte
  scx : Byte
  ly : Byte
  lyc : Byte
  bgp : Byte
  obp0 : Byte
  obp1 : Byte
  wy : Byte
  wx : Byte
  mode : PpuMode
  dots : Nat
  coinc : Bool
  statLine : Bool
  lcdWasOff : Bool
  fb : Frame
  deriving DecidableEq, Repr

/-- The DMA register (R123) and the hidden DMA state DMA_ACTIVE, DMA_SRC, DMA_INDEX, DMA_ACC (R126). -/
structure Dma where
  reg : Byte
  active : Bool
  src : Word
  index : Nat
  acc : Nat
  deriving DecidableEq, Repr

/-- BUTTONS (R128): the latest snapshot of the eight buttons, true = pressed. -/
structure Buttons where
  right : Bool
  left : Bool
  up : Bool
  down : Bool
  a : Bool
  b : Bool
  select : Bool
  start : Bool
  deriving DecidableEq, Repr

/-- No button pressed. -/
def Buttons.released : Buttons :=
  { right := false, left := false, up := false, down := false, a := false, b := false, select := false, start := false }

/-- The joypad: the stored select bits 5:4 of P1 (R127) and BUTTONS. -/
structure Joypad where
  sel : BitVec 2
  buttons : Buttons
  deriving DecidableEq, Repr

/-- The serial stub's storage SB and SC (R129). -/
structure Serial where
  sb : Byte
  sc : Byte
  deriving DecidableEq, Repr

/-- MBC_KIND (R130). -/
inductive MbcKind
  | noMbc
  | mbc1
  deriving DecidableEq, Repr

/-- The cartridge's bank controller (R130, R131). ROM_SIZE and RAM_SIZE are bytes, fixed at construction (R253). The ROM and CRAM
bytes are cells of `State.mem`. RAMG, BANK1, BANK2 and MODE have a function only when the kind is mbc1. -/
structure Cart where
  kind : MbcKind
  romSize : Nat
  ramSize : Nat
  ramg : BitVec 4
  bank1 : BitVec 5
  bank2 : BitVec 2
  mode : BitVec 1
  deriving DecidableEq, Repr

/-- The fault record FAULT keeps (R110, R800). -/
inductive FaultRecord
  /-- The fetch of one of the eleven illegal bytes: the byte and its address (R704). -/
  | illegalOpcode (op : Byte) (addr : Word)
  /-- A bus access to an address no device accepts, under UNMAPPED_POLICY = Fault only (R203). -/
  | busRoutingError (addr : Word)
  /-- Cartridge construction: checksum mismatch, short image or bad size code (R250, R251, R253). -/
  | invalidRom
  /-- Cartridge construction: a type byte other than those of R252. -/
  | unsupportedMbc (type : Byte)
  deriving DecidableEq, Repr

/-- The state of the block between two iterations of the orchestrator. -/
structure State where
  /-- The register file (R100 to R104). -/
  regs : Regs
  /-- IME (R106). -/
  ime : Bool
  /-- IME_PENDING (R107). -/
  imePending : Bool
  /-- HALTED (R108). -/
  halted : Bool
  /-- HALT_BUG (R109). -/
  haltBug : Bool
  /-- FAULT (R110): none, or the record of the fault that ended the run. -/
  fault : Option FaultRecord
  /-- IE, 0xFFFF (R112). -/
  ie : Byte
  /-- IF, 0xFF0F (R111). -/
  iflag : Byte
  timer : Timer
  ppu : Ppu
  dma : Dma
  joypad : Joypad
  serial : Serial
  cart : Cart
  /-- ROM, CRAM, VRAM, WRAM, OAM and HRAM (R130, R132), as cells. -/
  mem : Memory
  /-- FRAME_ACC (R881). -/
  frameAcc : Nat
  /-- UNMAPPED_POLICY (R10), one value for the whole run. -/
  policy : UnmappedPolicy
  /-- INPUT (R872): the snapshots the host has still to deliver, each with the number of the iteration it precedes. -/
  input : List (Nat × Buttons)
  /-- The number of the next iteration, 0 for the first: the model's own counter, by which `input` is timed. -/
  iter : Nat
  /-- The frames handed to the display so far (R848, R884), the latest first: the block's output, the model's own field. -/
  presented : List Frame
  /-- The address `a` of the opcode being executed (R700): the model's own latch, which R704's fault record reads. -/
  opAddr : Word
  /-- The cycles the last CPU step, dispatch or iteration reported (R700, R820, R880): the model's own latch. -/
  cycles : Nat
  deriving DecidableEq, Repr

/-- Why a step ends the run (R800). Each carries the final state of the run, R801's precise one: every effect before the raise
has happened and FAULT is set. Safe: the machine stops where the spec's machine stops. -/
inductive Fault
  /-- Raised by the meanings of the eleven illegal opcodes (R704). Safe: the spec's own fault. -/
  | illegalOpcode (op : Byte) (addr : Word) (final : State)
  /-- Raised by any bus access to an unmapped address under UNMAPPED_POLICY = Fault (R203). Safe: the spec's own fault. -/
  | busRoutingError (addr : Word) (final : State)
  /-- Answered by a step of a session whose cartridge failed to construct (R804). Safe: no run begins. -/
  | invalidRom (final : State)
  /-- As invalidRom, for an unsupported type byte (R252). Safe: no run begins. -/
  | unsupportedMbc (type : Byte) (final : State)
  deriving DecidableEq, Repr

/-- Why the model has no meaning for an instruction. -/
inductive Refusal
  /-- The arm of `exec` is not written yet. Safe: the machine stops. No arm of this model answers it. -/
  | notModelled (mnemonic : String)
  deriving DecidableEq, Repr

/-- The outcome of an operation of the machine. -/
abbrev Result := Host.Outcome State Fault Refusal

/-- A cartridge slot that holds no image: NoMbc, the smallest ROM_SIZE, no RAM, the MBC registers at their reset values
(R160). DESIGN CHOICE, notes/assumptions/2.md. -/
def Cart.empty : Cart :=
  { kind := .noMbc, romSize := 0x8000, ramSize := 0, ramg := 0x0, bank1 := 0x01, bank2 := 0x0, mode := 0 }

/-- Reset (R900): every piece of state at its value in the table of R160, for a constructed cartridge and the parameters
R10 leaves open (the memory contents ROM and INIT_*, UNMAPPED_POLICY, INPUT). -/
def State.powerOn (cart : Cart) (mem : Memory) (policy : UnmappedPolicy) (input : List (Nat × Buttons)) : State :=
  { regs := { a := 0x01, f := 0xB0, b := 0x00, c := 0x13, d := 0x00, e := 0xD8, h := 0x01, l := 0x4D,
              sp := 0xFFFE, pc := 0x0100 }
    ime := false, imePending := false, halted := false, haltBug := false, fault := none
    ie := 0x00, iflag := 0x00
    timer := { div := 0xAB, tima := 0x00, tma := 0x00, tac := 0xF8, divAcc := 0, timaAcc := 0 }
    ppu := { lcdc := 0x91, statHi := 0, scy := 0x00, scx := 0x00, ly := 0x00, lyc := 0x00, bgp := 0xFC, obp0 := 0xFF,
             obp1 := 0xFF, wy := 0x00, wx := 0x00, mode := .oamScan, dots := 0, coinc := true, statLine := false,
             lcdWasOff := false, fb := blankFrame }
    dma := { reg := 0xFF, active := false, src := 0x0000, index := 160, acc := 0 }
    joypad := { sel := 0, buttons := Buttons.released }
    serial := { sb := 0x00, sc := 0x7E }
    cart := { cart with ramg := 0x0, bank1 := 0x01, bank2 := 0x0, mode := 0 }
    mem := mem, frameAcc := 0, policy := policy, input := input, iter := 0, presented := []
    opAddr := 0x0100, cycles := 0 }

/-- The machine right after reset with nothing placed: no image in the cartridge slot, no cell listed, OpenBus (the value R10 gives the
parameter), no input to come. -/
def State.reset : State := State.powerOn Cart.empty [] .openBus []

end Sys2Proof.Machine
end

