-- ==== Sys2Proof/Machine/Cartridge.lean ====
section
/-! DEFINITION. The cartridge: its construction from the ROM image (spec/20_memory.md R250 to R254), and the No-MBC and MBC1 bank
controllers (R255, R256, R260 to R265). -/

namespace Sys2Proof.Machine

/-- ROM_BANKS (R253). -/
def Cart.romBanks (c : Cart) : Nat := c.romSize / Config.romBankSize

/-- The bank number a masked bank field selects (R261): the mask is ROM_BANKS - 1. -/
def Cart.maskBank (c : Cart) (bank : Nat) : Nat := bank &&& (c.romBanks - 1)

/-- BANK2 << 5. -/
def Cart.bank2High (c : Cart) : Nat := c.bank2.toNat <<< 5

/-- The offset in the ROM image that a read of 0x0000-0x7FFF reaches: R255 for NoMbc, R262 and R263 for MBC1. -/
def Cart.romOffset (c : Cart) (a : Nat) : Nat :=
  match c.kind with
  | .noMbc => a
  | .mbc1 =>
    if a < 0x4000 then
      (if c.mode = 0 then 0 else c.maskBank c.bank2High) * Config.romBankSize + a
    else
      c.maskBank (c.bank2High ||| c.bank1.toNat) * Config.romBankSize + (a - 0x4000)

/-- The offset in CRAM that an access to 0xA000-0xBFFF reaches, none where it reads 0xFF and a write changes nothing: R255 and R256
for NoMbc, R264 and R265 for MBC1. -/
def Cart.cramOffset (c : Cart) (a : Nat) : Option Nat :=
  match c.kind with
  | .noMbc => if a - 0xA000 < c.ramSize then some (a - 0xA000) else none
  | .mbc1 =>
    if c.ramg = 0xA ∧ c.ramSize > 0 then
      some (((if c.mode = 1 then c.bank2.toNat * Config.ramBankSize else 0) + (a - 0xA000)) % c.ramSize)
    else none

/-- A write to 0x0000-0x7FFF: nothing for NoMbc (R256), the register of the window for MBC1 (R260). -/
def Cart.writeRegister (c : Cart) (a : Nat) (v : Byte) : Cart :=
  match c.kind with
  | .noMbc => c
  | .mbc1 =>
    if a < 0x2000 then { c with ramg := v.setWidth 4 }
    else if a < 0x4000 then
      { c with bank1 := if (v.setWidth 5 : BitVec 5) = 0 then 1 else v.setWidth 5 }
    else if a < 0x6000 then { c with bank2 := v.setWidth 2 }
    else { c with mode := v.setWidth 1 }

/-- The byte of an image at an offset. -/
def imageByte (image : List Byte) (k : Nat) : Byte := image.getD k 0xFF

/-- The header checksum over 0x0134-0x014C (R251). -/
def headerChecksum (image : List Byte) : Byte :=
  ((image.drop 0x0134).take 0x19).foldl (fun x b => x - b - 1) 0

/-- The kind the type byte selects (R252). -/
def kindOfType (t : Byte) : Option MbcKind :=
  if t = 0x00 ∨ t = 0x08 ∨ t = 0x09 then some .noMbc
  else if t = 0x01 ∨ t = 0x02 ∨ t = 0x03 then some .mbc1
  else none

/-- ROM_SIZE of the size code ROM[0x0148] (R10, R253). -/
def romSizeOfCode (c : Byte) : Option Nat := if c.toNat ≤ 8 then some (0x8000 <<< c.toNat) else none

/-- RAM_SIZE of the size code ROM[0x0149] (R10, R253). -/
def ramSizeOfCode (c : Byte) : Option Nat :=
  if c = 0 then some 0
  else if c = 1 then some 0x800
  else if c = 2 then some 0x2000
  else if c = 3 then some 0x8000
  else if c = 4 then some 0x20000
  else if c = 5 then some 0x10000
  else none

/-- Construct the cartridge of an image (R250 to R254). The spec gives no order to the checks: notes/assumptions/15.md. -/
def Cart.ofImage (image : List Byte) : Except FaultRecord Cart :=
  if image.length < 0x0150 then .error .invalidRom
  else if headerChecksum image ≠ imageByte image 0x014D then .error .invalidRom
  else
    match kindOfType (imageByte image 0x0147), romSizeOfCode (imageByte image 0x0148),
        ramSizeOfCode (imageByte image 0x0149) with
    | none, _, _ => .error (.unsupportedMbc (imageByte image 0x0147))
    | some k, some rom, some ram => .ok { Cart.empty with kind := k, romSize := rom, ramSize := ram }
    | some _, _, _ => .error .invalidRom

/-- The parameters INIT_WRAM, INIT_HRAM, INIT_VRAM, INIT_OAM and INIT_CRAM (R10). Bytes beyond an array's size are not used,
bytes a list leaves out are 0x00. -/
structure InitMemory where
  wram : List Byte
  hram : List Byte
  vram : List Byte
  oam : List Byte
  cram : List Byte
  deriving DecidableEq, Repr

/-- The memory of a session: the ROM image and the INIT_* arrays in their cells. -/
def initialMemory (image : List Byte) (init : InitMemory) (ramSize : Nat) : Memory :=
  let m := Memory.writeBytes [] 0x8000 (init.vram.take 0x2000)
  let m := m.writeBytes 0xC000 (init.wram.take 0x2000)
  let m := m.writeBytes 0xFE00 (init.oam.take Config.oamBytes)
  let m := m.writeBytes 0xFF80 (init.hram.take 0x7F)
  let m := m.writeBytes cramBase (init.cram.take ramSize)
  m.writeBytes romBase image

/-- load_cartridge(bytes) (R882): construct the cartridge, then reset (R900). A session whose cartridge fails to construct never runs
(R254, R804): its state holds the fault record, and a step of it answers the fault. -/
def State.loadCartridge (image : List Byte) (init : InitMemory) (policy : UnmappedPolicy) (input : List (Nat × Buttons)) :
    State :=
  match Cart.ofImage image with
  | .ok c => State.powerOn c (initialMemory image init c.ramSize) policy input
  | .error r => { State.powerOn Cart.empty [] policy input with fault := some r }

end Sys2Proof.Machine
end

