-- ==== Sys2Proof/Machine/Interrupts.lean ====
section
/-! DEFINITION. The interrupt controller's requests and pending interrupts (spec/60_exceptions.md R810 to R813). Taking an interrupt is
State.takeInterrupt in Sys2Proof/Machine/Ops.lean. -/

namespace Sys2Proof.Machine

/-- The five interrupt sources, in the order of their bits (R810). -/
inductive Source
  | vblank | stat | timer | serial | joypad
  deriving DecidableEq, Repr

/-- The bit of a source in IE and IF (R810). -/
def Source.index : Source → Nat
  | .vblank => 0
  | .stat => 1
  | .timer => 2
  | .serial => 3
  | .joypad => 4

/-- The mask of a source's bit. -/
def Source.mask (i : Source) : Byte := (1 : Byte) <<< i.index

/-- The fixed vector `0x0040 + i * 8` (R810). -/
def Source.vector (i : Source) : Word := BitVec.ofNat 16 (0x0040 + i.index * 8)

/-- request(i) (R16, R812). -/
def State.request (s : State) (i : Source) : State := { s with iflag := s.iflag ||| i.mask }

/-- pending = IE & IF & 0x1F (R813). -/
def State.pending (s : State) : Byte := s.ie &&& s.iflag &&& 0x1F

/-- The source dispatch takes: the lowest set bit of `pending` (R811). -/
def State.firstPending (s : State) : Option Source :=
  [Source.vblank, .stat, .timer, .serial, .joypad].find? fun i => s.pending.getLsbD i.index

end Sys2Proof.Machine
end

