-- ==== Sys2Proof/Machine/Joypad.lean ====
section
/-! DEFINITION. The joypad (spec/60_exceptions.md R870 to R872) and the serial stub (R875) at the bus. -/

namespace Sys2Proof.Machine

/-- The button group as a nibble, bit 3 first: Start, Select, B, A (R870). -/
def Buttons.buttonNibble (b : Buttons) : BitVec 4 := bit b.start ++ bit b.select ++ bit b.b ++ bit b.a

/-- The direction group as a nibble, bit 3 first: Down, Up, Left, Right (R870). -/
def Buttons.directionNibble (b : Buttons) : BitVec 4 := bit b.down ++ bit b.up ++ bit b.left ++ bit b.right

/-- P1[5] = 0 selects the buttons, P1[4] = 0 the directions (R127). -/
def Joypad.buttonsSelected (j : Joypad) : Bool := !j.sel.getLsbD 1

def Joypad.directionsSelected (j : Joypad) : Bool := !j.sel.getLsbD 0

/-- The P1 read value (R870). -/
def Joypad.read (j : Joypad) : Byte :=
  let lo0 : BitVec 4 := 0xF
  let lo1 := if j.buttonsSelected then lo0 &&& ~~~j.buttons.buttonNibble else lo0
  let lo2 := if j.directionsSelected then lo1 &&& ~~~j.buttons.directionNibble else lo1
  (0b11 : BitVec 2) ++ j.sel ++ lo2

/-- A write of P1 stores bits 5:4 only (R212). -/
def Joypad.write (j : Joypad) (v : Byte) : Joypad := { j with sel := v.extractLsb' 4 2 }

/-- Some button of a selected group goes from released to pressed (R871). -/
def Joypad.newlyPressed (j : Joypad) (b : Buttons) : Bool :=
  (j.buttonsSelected && b.buttonNibble &&& ~~~j.buttons.buttonNibble != 0) ||
    (j.directionsSelected && b.directionNibble &&& ~~~j.buttons.directionNibble != 0)

/-- Deliver one snapshot (R871): one request for the whole snapshot. -/
def State.deliver (s : State) (b : Buttons) : State :=
  let s1 := if s.joypad.newlyPressed b then s.request .joypad else s
  { s1 with joypad := { s1.joypad with buttons := b } }

/-- Deliver the snapshots that precede the next iteration, in the order of INPUT (R872). notes/assumptions/3.md. -/
def State.deliverDue : List (Nat × Buttons) → State → State
  | [], s => { s with input := [] }
  | (n, b) :: rest, s => if n ≤ s.iter then State.deliverDue rest (s.deliver b) else { s with input := (n, b) :: rest }

def State.applyInput (s : State) : State := State.deliverDue s.input s

/-- A read of SB or SC (R213). -/
def Serial.readRegister (d : Serial) (a : Nat) : Byte :=
  match a with
  | 0xFF01 => d.sb
  | 0xFF02 => d.sc
  | _ => 0xFF

/-- A write of SB or SC: storage only (R213, R875). -/
def Serial.writeRegister (d : Serial) (a : Nat) (v : Byte) : Serial :=
  match a with
  | 0xFF01 => { d with sb := v }
  | 0xFF02 => { d with sc := v }
  | _ => d

end Sys2Proof.Machine
end

