-- ==== Sys2Proof/Machine/Ppu.lean ====
section
/-! DEFINITION. The PPU (spec/60_exceptions.md R840 to R852): the STAT line, the mode machine, scanline composition, presentation, and
its registers at the bus (spec/20_memory.md R209). -/

namespace Sys2Proof.Machine

/-- The number of a mode, as STAT[1:0] reads it (R119, R841). -/
def PpuMode.code : PpuMode → BitVec 2
  | .hblank => 0
  | .vblank => 1
  | .oamScan => 2
  | .draw => 3

/-- Dots a mode lasts (R841); for VBlank, each of its lines. -/
def PpuMode.length : PpuMode → Nat
  | .oamScan => 80
  | .draw => 172
  | .hblank => 204
  | .vblank => 456

/-- LCDC[7], the LCD enable (R118). -/
def Ppu.lcdOn (p : Ppu) : Bool := p.lcdc.getLsbD 7

/-- STAT as read: stored bits 7:3, the coincidence flag, MODE (R209, R843). -/
def Ppu.stat (p : Ppu) : Byte := p.statHi ++ bit p.coinc ++ p.mode.code

/-- The composite STAT condition for a coincidence flag (R844). STAT[3] is bit 0 of the stored bits. -/
def Ppu.statCondition (p : Ppu) (coinc : Bool) : Bool :=
  (p.mode == .hblank && p.statHi.getLsbD 0) || (p.mode == .vblank && p.statHi.getLsbD 1) ||
    (p.mode == .oamScan && p.statHi.getLsbD 2) || (coinc && p.statHi.getLsbD 3)

/-- eval_stat() (R844): the interrupt is requested on a rising edge of the line only. -/
def State.evalStat (s : State) : State :=
  let coinc := s.ppu.ly == s.ppu.lyc
  let line := s.ppu.statCondition coinc
  { s with iflag := if line && !s.ppu.statLine then (s.request .stat).iflag else s.iflag
           ppu := { s.ppu with coinc := coinc, statLine := line } }

/-- The evaluation after a program write of STAT or LYC: only while the LCD is on (R846). -/
def State.evalStatIfOn (s : State) : State := if s.ppu.lcdOn then s.evalStat else s

/-- A read of 0xFF40-0xFF4B other than the DMA register (R117, R209). -/
def Ppu.readRegister (p : Ppu) (a : Nat) : Byte :=
  match a with
  | 0xFF40 => p.lcdc
  | 0xFF41 => p.stat
  | 0xFF42 => p.scy
  | 0xFF43 => p.scx
  | 0xFF44 => p.ly
  | 0xFF45 => p.lyc
  | 0xFF47 => p.bgp
  | 0xFF48 => p.obp0
  | 0xFF49 => p.obp1
  | 0xFF4A => p.wy
  | 0xFF4B => p.wx
  | _ => 0xFF

/-- A write of 0xFF40-0xFF4B other than the DMA register (R118 to R124, R209): LY ignores it, STAT stores bits 7:3, STAT and
LYC re-evaluate. -/
def State.writePpuRegister (s : State) (a : Nat) (v : Byte) : State :=
  match a with
  | 0xFF40 => { s with ppu := { s.ppu with lcdc := v } }
  | 0xFF41 => ({ s with ppu := { s.ppu with statHi := v.extractLsb' 3 5 } } : State).evalStatIfOn
  | 0xFF42 => { s with ppu := { s.ppu with scy := v } }
  | 0xFF43 => { s with ppu := { s.ppu with scx := v } }
  | 0xFF45 => ({ s with ppu := { s.ppu with lyc := v } } : State).evalStatIfOn
  | 0xFF47 => { s with ppu := { s.ppu with bgp := v } }
  | 0xFF48 => { s with ppu := { s.ppu with obp0 := v } }
  | 0xFF49 => { s with ppu := { s.ppu with obp1 := v } }
  | 0xFF4A => { s with ppu := { s.ppu with wy := v } }
  | 0xFF4B => { s with ppu := { s.ppu with wx := v } }
  | _ => s

/-! ### Scanline composition (R850, R851) -/

/-- colour(P, i) = (P >> (2 * i)) & 3 (R124). -/
def colour (palette : Byte) (i : BitVec 2) : BitVec 2 := (palette >>> (2 * i.toNat)).setWidth 2

/-- The two-bit palette index of bit `b` of a tile row: the first byte is the low plane (R850). -/
def planeIndex (lo hi : Byte) (b : Nat) : BitVec 2 := bit (hi.getLsbD b) ++ bit (lo.getLsbD b)

/-- A byte of VRAM at its bus address, read directly, never gated (R850). -/
def State.vram (s : State) (a : Nat) : Byte := s.mem.read a

/-- The n-th byte of OAM. -/
def State.oam (s : State) (n : Nat) : Byte := s.mem.read (0xFE00 + n)

/-- The start of a background or window tile's data: unsigned from 0x8000, or signed from 0x9000 (R118, R850). -/
def State.tileBase (s : State) (t : Byte) : Nat :=
  if s.ppu.lcdc.getLsbD 4 then 0x8000 + t.toNat * 16 else (0x9000 + t.toInt * 16).toNat

/-- RAW[x] of line `ly` (R850): the background or window palette index of column x. -/
def State.bgIndex (s : State) (ly x : Nat) : BitVec 2 :=
  let p := s.ppu
  if p.lcdc.getLsbD 0 then
    let window := p.lcdc.getLsbD 5 && decide (p.wy.toNat ≤ ly) && decide (p.wx.toNat ≤ x + 7)
    let px := if window then x + 7 - p.wx.toNat else (x + p.scx.toNat) % 256
    let py := if window then ly - p.wy.toNat else (ly + p.scy.toNat) % 256
    let map := if p.lcdc.getLsbD (if window then 6 else 3) then 0x9C00 else 0x9800
    let base := s.tileBase (s.vram (map + py / 8 * 32 + px / 8))
    let row := base + py % 8 * 2
    planeIndex (s.vram row) (s.vram (row + 1)) (7 - px % 8)
  else 0

/-- FB[ly][x] after the background pass (R850). -/
def State.bgPixel (s : State) (ly x : Nat) : BitVec 2 :=
  if s.ppu.lcdc.getLsbD 0 then colour s.ppu.bgp (s.bgIndex ly x) else 0

/-- One entry of OAM as the sprite pass reads it (R851): Y and X less the fixed offsets 16 and 8, signed; tile; flags. -/
structure Sprite where
  sy : Int
  sx : Int
  tile : Byte
  flags : Byte
  deriving DecidableEq, Repr

/-- The n-th entry of OAM, 4 bytes each (R851). -/
def State.sprite (s : State) (n : Nat) : Sprite :=
  { sy := (s.oam (4 * n)).toNat - 16, sx := (s.oam (4 * n + 1)).toNat - 8
    tile := s.oam (4 * n + 2), flags := s.oam (4 * n + 3) }

/-- The height of a sprite: LCDC[2] (R118, R851). -/
def State.spriteHeight (s : State) : Nat := if s.ppu.lcdc.getLsbD 2 then 16 else 8

/-- The sprites drawn on a line, in OAM order: those that cover it, at most 10 (R851). -/
def State.lineSprites (s : State) (ly : Nat) : List Sprite :=
  (((List.range 40).map s.sprite).filter fun o =>
    decide (o.sy ≤ (ly : Int) ∧ (ly : Int) < o.sy + s.spriteHeight)).take 10

/-- The palette index a sprite that covers the line puts in column x; none where the sprite does not reach the column or its colour there is
the transparent 0 (R851). -/
def State.spriteIndex (s : State) (o : Sprite) (ly x : Nat) : Option (BitVec 2) :=
  let k := ((x : Int) - o.sx).toNat
  if o.sx ≤ (x : Int) ∧ k ≤ 7 then
    let row0 := ((ly : Int) - o.sy).toNat
    let row := if o.flags.getLsbD 6 then s.spriteHeight - 1 - row0 else row0
    let t := if s.spriteHeight = 16 then o.tile &&& 0xFE else o.tile
    let at' := 0x8000 + t.toNat * 16 + row * 2
    let idx := planeIndex (s.vram at') (s.vram (at' + 1)) (if o.flags.getLsbD 5 then k else 7 - k)
    if idx = 0 then none else some idx
  else none

/-- FB[ly][x] after both passes (R850, R851): the first sprite of the line, in OAM order, that is not transparent in the column wins
it, and where its flag 7 puts it behind the background's colours 1 to 3 the background stays. -/
def State.pixel (s : State) (ly x : Nat) : BitVec 2 :=
  let bg := s.bgPixel ly x
  if s.ppu.lcdc.getLsbD 1 then
    match (s.lineSprites ly).findSome? fun o => (s.spriteIndex o ly x).map fun i => (o, i) with
    | none => bg
    | some (o, i) =>
      if o.flags.getLsbD 7 && s.bgIndex ly x != 0 then bg
      else colour (if o.flags.getLsbD 4 then s.ppu.obp1 else s.ppu.obp0) i
  else bg

/-- compose(ly) (R850 to R852): row `ly` of FB, every register and byte as it stands now. -/
def State.compose (s : State) : State :=
  let ly := s.ppu.ly.toNat
  { s with ppu := { s.ppu with fb := s.ppu.fb.setIfInBounds ly (Vector.ofFn fun x : Fin 160 => s.pixel ly x) } }

/-- present() (R848): FB, as it stands, goes to the display. -/
def State.present (s : State) : State := { s with presented := s.ppu.fb :: s.presented }

/-! ### The mode machine (R841, R849) -/

/-- Take the dots of the current mode out of DOTS and enter a mode. -/
def State.enterMode (s : State) (m : PpuMode) : State :=
  { s with ppu := { s.ppu with dots := s.ppu.dots - s.ppu.mode.length, mode := m } }

def State.setLy (s : State) (v : Byte) : State := { s with ppu := { s.ppu with ly := v } }

/-- The transition out of the current mode, without its condition on DOTS (R841). -/
def State.leaveMode (s : State) : State :=
  match s.ppu.mode with
  | .oamScan => (s.enterMode .draw).evalStat
  | .draw => (s.compose.enterMode .hblank).evalStat
  | .hblank =>
    let s1 := s.setLy (s.ppu.ly + 1)
    if s1.ppu.ly.toNat ≥ 144 then ((s1.enterMode .vblank).request .vblank).evalStat
    else (s1.enterMode .oamScan).evalStat
  | .vblank =>
    let s1 := s.setLy (s.ppu.ly + 1)
    if s1.ppu.ly.toNat ≥ 154 then (((s1.setLy 0).present).enterMode .oamScan).evalStat
    else (s1.enterMode .vblank).evalStat

/-- The loop of PPU.update (R841): leave modes while DOTS has the current mode's dots. -/
def State.ppuLoop : Nat → State → State
  | 0, s => s
  | n + 1, s => if s.ppu.dots ≥ s.ppu.mode.length then State.ppuLoop n s.leaveMode else s

/-- lcd_off() (R849). -/
def State.lcdOff (s : State) : State :=
  { s with ppu := { s.ppu with dots := 0, ly := 0, mode := .hblank, fb := blankFrame, statLine := false,
                               lcdWasOff := true } }

/-- The restart of the first update with the LCD on after lcd_off (R841, D32). -/
def State.lcdRestart (s : State) : State :=
  if s.ppu.lcdWasOff then
    ({ s with ppu := { s.ppu with lcdWasOff := false, mode := .oamScan, dots := 0 } } : State).evalStat
  else s

def State.addDots (s : State) (c : Nat) : State := { s with ppu := { s.ppu with dots := s.ppu.dots + c } }

/-- PPU.update(c) (R841). A mode lasts at least 80 dots, so dots / 80 + 1 turns are enough for the loop. -/
def State.ppuUpdate (s : State) (c : Nat) : State :=
  if s.ppu.lcdOn then
    let s1 := s.lcdRestart.addDots c
    State.ppuLoop (s1.ppu.dots / 80 + 1) s1
  else s.lcdOff

end Sys2Proof.Machine
end

