-- ==== Sys2Proof/Machine/Timer.lean ====
section
/-! DEFINITION. The timer (spec/60_exceptions.md R831 to R834) and its registers at the bus (spec/20_memory.md R210). -/

namespace Sys2Proof.Machine

/-- TAC_PERIODS (R10, D21): the cycles per TIMA increment that TAC[1:0] selects. -/
def tacPeriod (tac : Byte) : Nat := [256, 4, 16, 64].getD (tac.extractLsb' 0 2).toNat 256

/-- TAC[2], the timer enable (R115). -/
def Timer.enabled (t : Timer) : Bool := t.tac.getLsbD 2

/-- One TIMA increment (R831): on overflow TIMA reloads from TMA at once and the Timer interrupt is requested. -/
def State.timaTick (s : State) : State :=
  if s.timer.tima = 0xFF then ({ s with timer := { s.timer with tima := s.timer.tma } } : State).request .timer
  else { s with timer := { s.timer with tima := s.timer.tima + 1 } }

/-- `n` TIMA increments. -/
def State.timaTicks : Nat → State → State
  | 0, s => s
  | n + 1, s => State.timaTicks n s.timaTick

/-- The DIV part of Timer.update(c) (R831, R832): the loop that takes 256 out of DIV_ACC runs (DIV_ACC + c) / 256 times. -/
def Timer.advanceDiv (t : Timer) (c : Nat) : Timer :=
  { t with div := t.div + BitVec.ofNat 8 ((t.divAcc + c) / 256), divAcc := (t.divAcc + c) % 256 }

/-- Timer.update(c) (R831): while the timer is enabled, (TIMA_ACC + c) / P increments, the rest stays in TIMA_ACC. -/
def State.timerUpdate (s : State) (c : Nat) : State :=
  let s1 := { s with timer := s.timer.advanceDiv c }
  if s.timer.enabled then
    let total := s.timer.timaAcc + c
    let p := tacPeriod s.timer.tac
    State.timaTicks (total / p) { s1 with timer := { s1.timer with timaAcc := total % p } }
  else s1

/-- A read of 0xFF04-0xFF07 (R210). -/
def Timer.readRegister (t : Timer) (a : Nat) : Byte :=
  match a with
  | 0xFF04 => t.div
  | 0xFF05 => t.tima
  | 0xFF06 => t.tma
  | 0xFF07 => t.tac
  | _ => 0xFF

/-- A write of 0xFF04-0xFF07 (R113, R210): a write of DIV sets DIV and DIV_ACC to 0 whatever the value. -/
def Timer.writeRegister (t : Timer) (a : Nat) (v : Byte) : Timer :=
  match a with
  | 0xFF04 => { t with div := 0, divAcc := 0 }
  | 0xFF05 => { t with tima := v }
  | 0xFF06 => { t with tma := v }
  | 0xFF07 => { t with tac := v }
  | _ => t

end Sys2Proof.Machine
end

