-- ==== Sys2Proof/Machine/Bus.lean ====
section
/-! DEFINITION. The bus multiplexer, the devices' read and write ports, and the CPU's gated accesses (spec/20_memory.md R200 to R234). -/

namespace Sys2Proof.Machine

/-- The devices of R201. -/
inductive Device
  | cartridge | ppu | ram | timer | interrupts | joypad | serial
  deriving DecidableEq, Repr

/-- accepts(a): the address ranges of R201. -/
def Device.accepts (d : Device) (a : Nat) : Bool :=
  match d with
  | .cartridge => decide (a ≤ 0x7FFF) || (decide (0xA000 ≤ a) && decide (a ≤ 0xBFFF))
  | .ppu => (decide (0x8000 ≤ a) && decide (a ≤ 0x9FFF)) || (decide (0xFE00 ≤ a) && decide (a ≤ 0xFE9F)) ||
      (decide (0xFF40 ≤ a) && decide (a ≤ 0xFF4B))
  | .ram => (decide (0xC000 ≤ a) && decide (a ≤ 0xDFFF)) || (decide (0xE000 ≤ a) && decide (a ≤ 0xFDFF)) ||
      (decide (0xFEA0 ≤ a) && decide (a ≤ 0xFEFF)) || (decide (0xFF80 ≤ a) && decide (a ≤ 0xFFFE))
  | .timer => decide (0xFF04 ≤ a) && decide (a ≤ 0xFF07)
  | .interrupts => a == 0xFF0F || a == 0xFFFF
  | .joypad => a == 0xFF00
  | .serial => decide (0xFF01 ≤ a) && decide (a ≤ 0xFF02)

/-- The devices in registration order (R201). -/
def devices : List Device := [.cartridge, .ppu, .ram, .timer, .interrupts, .joypad, .serial]

/-- The first registered device that accepts the address (R200). -/
def deviceAt (a : Nat) : Option Device := devices.find? fun d => d.accepts a

/-- The memory cell behind a bus address: ROM (R255, R262, R263), VRAM and OAM (R208), CRAM (R255, R264, R265), WRAM (R204), its echo
(R205) and HRAM (R207). None for the prohibited range (R206), for CRAM that is absent or gated, and for registers. -/
def State.cellOf (s : State) (a : Nat) : Option Nat :=
  if a < 0x8000 then some (romBase + s.cart.romOffset a)
  else if a < 0xA000 then some a
  else if a < 0xC000 then (s.cart.cramOffset a).map (cramBase + ·)
  else if a < 0xE000 then some a
  else if a < 0xFE00 then some (a - 0x2000)
  else if a < 0xFEA0 then some a
  else if 0xFF80 ≤ a ∧ a < 0xFFFF then some a
  else none

/-- The byte of the cell behind an address; 0xFF where there is none (R206, R255, R264). -/
def State.readCell (s : State) (a : Nat) : Byte :=
  match s.cellOf a with
  | some k => s.mem.read k
  | none => 0xFF

/-- Store in the cell behind an address; nothing where there is none (R206, R256, R264). -/
def State.writeCell (s : State) (a : Nat) (v : Byte) : State :=
  match s.cellOf a with
  | some k => { s with mem := s.mem.write k v }
  | none => s

/-- DMA start by a write to 0xFF46 (R860): at once. -/
def Dma.begin (v : Byte) : Dma := { reg := v, active := true, src := pair v 0, index := 0, acc := 0 }

/-- The read ports of the devices (R204 to R213). -/
def State.deviceRead (s : State) (d : Device) (a : Nat) : Byte :=
  match d with
  | .cartridge => s.readCell a
  | .ram => s.readCell a
  | .ppu =>
    if a < 0xFF40 then s.readCell a
    else if a = 0xFF46 then s.dma.reg
    else s.ppu.readRegister a
  | .timer => s.timer.readRegister a
  | .interrupts => if a = 0xFFFF then s.ie else s.iflag
  | .joypad => s.joypad.read
  | .serial => s.serial.readRegister a

/-- The write ports of the devices (R204 to R213, R256, R260). -/
def State.deviceWrite (s : State) (d : Device) (a : Nat) (v : Byte) : State :=
  match d with
  | .cartridge => if a < 0x8000 then { s with cart := s.cart.writeRegister a v } else s.writeCell a v
  | .ram => s.writeCell a v
  | .ppu =>
    if a < 0xFF40 then s.writeCell a v
    else if a = 0xFF46 then { s with dma := Dma.begin v }
    else s.writePpuRegister a v
  | .timer => { s with timer := s.timer.writeRegister a v }
  | .interrupts => if a = 0xFFFF then { s with ie := v } else { s with iflag := v }
  | .joypad => { s with joypad := s.joypad.write v }
  | .serial => { s with serial := s.serial.writeRegister a v }

/-- BusRead(a) (R200, R203): none where it raises BusRoutingError(a). -/
def State.busRead (s : State) (a : Word) : Option Byte :=
  match deviceAt a.toNat with
  | some d => some (s.deviceRead d a.toNat)
  | none =>
    match s.policy with
    | .openBus => some 0xFF
    | .fault => none

/-- BusWrite(a, v) (R200, R203): none where it raises BusRoutingError(a). -/
def State.busWrite (s : State) (a : Word) (v : Byte) : Option State :=
  match deviceAt a.toNat with
  | some d => some (s.deviceWrite d a.toNat v)
  | none =>
    match s.policy with
    | .openBus => some s
    | .fault => none

/-- The HRAM window of R233. -/
def inHram (a : Word) : Bool := decide (0xFF80 ≤ a.toNat) && decide (a.toNat ≤ 0xFFFE)

/-- The three conditions under which a CPU access is blocked (R230): an active DMA outside HRAM, VRAM in mode 3, OAM in modes 2
and 3. -/
def State.blocked (s : State) (a : Word) : Bool :=
  (s.dma.active && !inHram a) ||
    (decide (0x8000 ≤ a.toNat) && decide (a.toNat ≤ 0x9FFF) && s.ppu.mode == .draw) ||
    (decide (0xFE00 ≤ a.toNat) && decide (a.toNat ≤ 0xFE9F) && (s.ppu.mode == .oamScan || s.ppu.mode == .draw))

/-- MemRead(a, 1) (R230): the CPU's gated read. -/
def State.memRead (s : State) (a : Word) : Option Byte := if s.blocked a then some 0xFF else s.busRead a

/-- MemWrite(a, 1, v) (R231): the CPU's gated write; a blocked write is dropped. -/
def State.memWrite (s : State) (a : Word) (v : Byte) : Option State := if s.blocked a then some s else s.busWrite a v

end Sys2Proof.Machine
end

