-- ==== Sys2Proof/Machine/Operands.lean ====
section
/-! DEFINITION. The register operands: reading and writing a register, a pair, SP, PC and F (spec/00_scope.md R13, spec/10_state.md
R100 to R104), and the condition codes (R650). Every read and write of a register goes through these. -/

namespace Sys2Proof.Machine

/-- x[r] (R13). -/
def State.reg (s : State) : Reg8 → Byte
  | .b => s.regs.b
  | .c => s.regs.c
  | .d => s.regs.d
  | .e => s.regs.e
  | .h => s.regs.h
  | .l => s.regs.l
  | .a => s.regs.a

/-- x[r] <- v (R13). -/
def State.setReg (s : State) (r : Reg8) (v : Byte) : State :=
  match r with
  | .b => { s with regs := { s.regs with b := v } }
  | .c => { s with regs := { s.regs with c := v } }
  | .d => { s with regs := { s.regs with d := v } }
  | .e => { s with regs := { s.regs with e := v } }
  | .h => { s with regs := { s.regs with h := v } }
  | .l => { s with regs := { s.regs with l := v } }
  | .a => { s with regs := { s.regs with a := v } }

def State.setSp (s : State) (v : Word) : State := { s with regs := { s.regs with sp := v } }

/-- pc <- target (R13). -/
def State.setPc (s : State) (v : Word) : State := { s with regs := { s.regs with pc := v } }

/-- The single setter of F (R102): bits 3:0 do not exist, so `v & 0xF0` is stored. -/
def State.setF (s : State) (v : Byte) : State := { s with regs := { s.regs with f := v &&& 0xF0 } }

/-- rp(BC), rp(DE), rp(HL), and SP: value(rr) of R13. -/
def State.reg16 (s : State) : Reg16 → Word
  | .bc => pair s.regs.b s.regs.c
  | .de => pair s.regs.d s.regs.e
  | .hl => pair s.regs.h s.regs.l
  | .sp => s.regs.sp

/-- write rr <- v (R13): the high byte to the first-named register (R101). -/
def State.setReg16 (s : State) (rr : Reg16) (v : Word) : State :=
  match rr with
  | .bc => { s with regs := { s.regs with b := hiByte v, c := loByte v } }
  | .de => { s with regs := { s.regs with d := hiByte v, e := loByte v } }
  | .hl => { s with regs := { s.regs with h := hiByte v, l := loByte v } }
  | .sp => s.setSp v

/-- The pair operand of PUSH and POP as a pair of R13. -/
def pairOf : StackPair → Reg16
  | .bc => .bc
  | .de => .de
  | .hl => .hl

/-- rp(HL), the address of the (HL) operand. -/
def State.hl (s : State) : Word := s.reg16 .hl

/-- The flags, bits 7 to 4 of F (R104). -/
def State.flagZ (s : State) : Bool := s.regs.f.getLsbD 7

def State.flagN (s : State) : Bool := s.regs.f.getLsbD 6

def State.flagH (s : State) : Bool := s.regs.f.getLsbD 5

def State.flagC (s : State) : Bool := s.regs.f.getLsbD 4

/-- cond(cc) (R650). -/
def State.cond (s : State) : Cond → Bool
  | .nz => !s.flagZ
  | .z => s.flagZ
  | .nc => !s.flagC
  | .c => s.flagC

end Sys2Proof.Machine
end

