-- ==== Sys2Proof/Machine/Flags.lean ====
section
/-! DEFINITION. The results and flags of every arithmetic, logic, rotate and bit operation, as functions of the operands alone
(spec/42_alu8.md R500, R501, R514 to R533, spec/43_alu16.md R560, R563, spec/44_rotate_bit.md R600 to R626), and the setter of the four
flags. -/

namespace Sys2Proof.Machine

/-- The four flags an operation puts out: Z, N, H, C. -/
structure Flags where
  z : Bool
  n : Bool
  h : Bool
  c : Bool
  deriving DecidableEq, Repr

/-- The byte of F that holds the flags: Z, N, H, C in bits 7 to 4, then four zeros (R104, R500). -/
def flagByte (f : Flags) : Byte := bit f.z ++ bit f.n ++ bit f.h ++ bit f.c ++ (0 : BitVec 4)

/-- setF(z, n, h, c) of R500. -/
def State.setFlags (s : State) (f : Flags) : State := s.setF (flagByte f)

/-- add8(a, b, cin) of R500. -/
def add8 (a b : Byte) (cin : Bool) : Byte × Flags :=
  let t := a.toNat + b.toNat + cin.toNat
  let res := BitVec.ofNat 8 t
  (res, { z := res == 0, n := false
          h := decide (a.toNat % 16 + b.toNat % 16 + cin.toNat > 0xF)
          c := decide (t > 0xFF) })

/-- sub8(a, b, cin) of R501. -/
def sub8 (a b : Byte) (cin : Bool) : Byte × Flags :=
  let t : Int := (a.toNat : Int) - b.toNat - cin.toNat
  let res := BitVec.ofInt 8 t
  (res, { z := res == 0, n := true
          h := decide (a.toNat % 16 < b.toNat % 16 + cin.toNat)
          c := decide (a.toNat < b.toNat + cin.toNat) })

/-- The flags of AND, XOR and OR: Z from the result, H as given, N and C 0 (R514, R517, R520). -/
def logicFlags (res : Byte) (h : Bool) : Flags := { z := res == 0, n := false, h := h, c := false }

/-- The result and flags of the eight arithmetic and logic operations on A and an operand, with the carry flag as the carry in of
ADC and SBC (R502 to R525). -/
def alu (op : AluOp) (a v : Byte) (carry : Bool) : Byte × Flags :=
  match op with
  | .add => add8 a v false
  | .adc => add8 a v carry
  | .sub => sub8 a v false
  | .sbc => sub8 a v carry
  | .and => (a &&& v, logicFlags (a &&& v) true)
  | .xor => (a ^^^ v, logicFlags (a ^^^ v) false)
  | .or => (a ||| v, logicFlags (a ||| v) false)
  | .cp => sub8 a v false

/-- INC of a byte: C is passed as it is (R526, R527). -/
def inc8 (v : Byte) (carry : Bool) : Byte × Flags :=
  let res := v + 1
  (res, { z := res == 0, n := false, h := v &&& 0xF == 0xF, c := carry })

/-- DEC of a byte: C is passed as it is (R528, R529; N = 1, spec/90_conflicts.md C1). -/
def dec8 (v : Byte) (carry : Bool) : Byte × Flags :=
  let res := v - 1
  (res, { z := res == 0, n := true, h := v &&& 0xF == 0x0, c := carry })

/-- DAA (R530, spec/90_conflicts.md C2): the high-digit correction is decided on the A before any correction, and so is made before
the low-digit one. -/
def daa (a : Byte) (n h c : Bool) : Byte × Flags :=
  if n then
    let a1 := if c then a - 0x60 else a
    let a2 := if h then a1 - 0x06 else a1
    (a2, { z := a2 == 0, n := true, h := false, c := c })
  else
    let high := c || decide (a.toNat > 0x99)
    let a1 := if high then a + 0x60 else a
    let a2 := if h || decide (a1.toNat % 16 > 0x09) then a1 + 0x06 else a1
    (a2, { z := a2 == 0, n := false, h := false, c := high })

/-- spe(sp, e) of R560: the sum, the carry out of bit 3 and the carry out of bit 7 of the unsigned low-byte addition. -/
def spe (sp : Word) (e : Byte) : Word × Bool × Bool :=
  (sp + sext16 e,
    decide (sp.toNat % 16 + e.toNat % 16 > 0x0F),
    decide (sp.toNat % 256 + e.toNat > 0xFF))

/-- ADD HL,rr (R563): the sum, the carry out of bit 11 and the carry out of bit 15. -/
def addHl (a b : Word) : Word × Bool × Bool :=
  let t := a.toNat + b.toNat
  (BitVec.ofNat 16 t,
    decide (a.toNat % 0x1000 + b.toNat % 0x1000 > 0x0FFF),
    decide (t > 0xFFFF))

/-- The eight rotates and shifts: the result and the bit that goes to C (R605 to R620). SWAP puts out C = 0 (R617). -/
def rot (op : RotOp) (v : Byte) (carry : Bool) : Byte × Bool :=
  match op with
  | .rlc => ((v <<< 1) ||| (bit (v.getLsbD 7)).setWidth 8, v.getLsbD 7)
  | .rrc => ((v >>> 1) ||| ((bit (v.getLsbD 0)).setWidth 8 <<< 7), v.getLsbD 0)
  | .rl => ((v <<< 1) ||| (bit carry).setWidth 8, v.getLsbD 7)
  | .rr => ((v >>> 1) ||| ((bit carry).setWidth 8 <<< 7), v.getLsbD 0)
  | .sla => (v <<< 1, v.getLsbD 7)
  | .sra => ((v >>> 1) ||| (v &&& 0x80), v.getLsbD 0)
  | .swap => (((v &&& 0x0F) <<< 4) ||| (v >>> 4), false)
  | .srl => (v >>> 1, v.getLsbD 0)

/-- The flags of the CB rotates and shifts: Z from the result, N = H = 0 (R605). -/
def rotFlags (r : Byte × Bool) : Flags := { z := r.1 == 0, n := false, h := false, c := r.2 }

/-- The flags of RLCA, RRCA, RLA and RRA: Z is always 0 (R600 to R603). -/
def rotAFlags (c : Bool) : Flags := { z := false, n := false, h := false, c := c }

/-- The flags of BIT b: Z is the complement of the bit, N = 0, H = 1, C kept (R621, R622). -/
def bitFlags (v : Byte) (b : Fin 8) (carry : Bool) : Flags := { z := !v.getLsbD b, n := false, h := true, c := carry }

/-- RES b (R623). -/
def resBit (v : Byte) (b : Fin 8) : Byte := v &&& ~~~((1 : Byte) <<< b.val)

/-- SET b (R625). -/
def setBit (v : Byte) (b : Fin 8) : Byte := v ||| ((1 : Byte) <<< b.val)

end Sys2Proof.Machine
end

