-- ==== Sys2Proof/Machine/Ops.lean ====
section
/-! DEFINITION. The named operations the meanings are written in: raising a fault (spec/60_exceptions.md R800, R801), the CPU's reads and
writes with what follows them (spec/00_scope.md R14, R15, R21), the stack, taking an interrupt (R820) and returning from one
(spec/45_control.md R660). -/

namespace Sys2Proof.Machine

/-- The fault a record stands for, with the final state of the run. -/
def Fault.of (r : FaultRecord) (final : State) : Fault :=
  match r with
  | .illegalOpcode op a => .illegalOpcode op a final
  | .busRoutingError a => .busRoutingError a final
  | .invalidRom => .invalidRom final
  | .unsupportedMbc t => .unsupportedMbc t final

/-- raise r (R16, R800): FAULT is set and the run ends in this state; nothing after it happens (R801). -/
def State.raise (s : State) (r : FaultRecord) : Result := .fault (Fault.of r { s with fault := some r })

/-- What follows an operation that ended in a next state. -/
def andThen (o : Result) (k : State → Result) : Result :=
  match o with
  | .next s => k s
  | .fault f => .fault f
  | .refused r => .refused r

/-- The end of a meaning: the step reports `n` cycles (R700). -/
def State.done (s : State) (n : Nat) : Result := .next { s with cycles := n }

/-- `v <- MemRead(a, 1)` and what follows. -/
def State.readThen (s : State) (a : Word) (k : Byte → Result) : Result :=
  match s.memRead a with
  | some v => k v
  | none => s.raise (.busRoutingError a)

/-- `MemWrite(a, 1, v)` and what follows. -/
def State.writeThen (s : State) (a : Word) (v : Byte) (k : State → Result) : Result :=
  match s.memWrite a v with
  | some s' => k s'
  | none => s.raise (.busRoutingError a)

/-- `v <- imm8()` and what follows (R15). -/
def State.imm8Then (s : State) (k : Byte → State → Result) : Result :=
  s.readThen s.regs.pc fun v => k v (s.setPc (s.regs.pc + 1))

/-- `v <- imm16()` and what follows (R15): low byte first. -/
def State.imm16Then (s : State) (k : Word → State → Result) : Result :=
  s.imm8Then fun lo s1 => s1.imm8Then fun hi s2 => k (pair hi lo) s2

/-- push16(v) and what follows (R15): the high byte at SP-1, then the low byte at SP-2. -/
def State.push16Then (s : State) (v : Word) (k : State → Result) : Result :=
  let s1 := s.setSp (s.regs.sp - 1)
  s1.writeThen s1.regs.sp (hiByte v) fun s2 =>
    let s3 := s2.setSp (s2.regs.sp - 1)
    s3.writeThen s3.regs.sp (loByte v) k

/-- `v <- pop16()` and what follows (R15): the low byte at SP, then the high byte at SP+1. -/
def State.pop16Then (s : State) (k : Word → State → Result) : Result :=
  s.readThen s.regs.sp fun lo =>
    let s1 := s.setSp (s.regs.sp + 1)
    s1.readThen s1.regs.sp fun hi => k (pair hi lo) (s1.setSp (s1.regs.sp + 1))

/-- Taking an interrupt (R820, R821): leave a halt, push PC by gated writes, go to the fixed vector, clear IME and the source's
bit of IF. Only PC is saved; IME_PENDING and HALT_BUG stay. 16 cycles, 20 if halted. -/
def State.takeInterrupt (s : State) (i : Source) : Result :=
  let n := if s.halted then 20 else 16
  ({ s with halted := false } : State).push16Then s.regs.pc fun s1 =>
    ({ s1.setPc i.vector with ime := false, iflag := s1.iflag &&& ~~~i.mask } : State).done n

/-- Returning from an interrupt (R660, R824): pop PC and set IME at once; IME_PENDING stays. -/
def State.returnFromInterrupt (s : State) (n : Nat) : Result :=
  s.pop16Then fun v s1 => ({ s1.setPc v with ime := true } : State).done n

/-- handle_interrupts() (R819, R820). The cycles it consumed are the `cycles` of its next state. -/
def State.handleInterrupts (s : State) : Result :=
  match s.firstPending with
  | none => s.done 0
  | some i => if s.ime then s.takeInterrupt i else ({ s with halted := false } : State).done 0

end Sys2Proof.Machine
end

