-- ==== Sys2Proof/Machine/Alu16.lean ====
section
/-! DEFINITION. The meanings of the 16-bit arithmetic instructions (spec/43_alu16.md). -/

namespace Sys2Proof.Machine

/-- INC rr, DEC rr (R561, R562): no flag, 8 cycles. -/
def stepR16 (step : Word) (rr : Reg16) (s : State) : Result := (s.setReg16 rr (s.reg16 rr + step)).done 8

/-- ADD HL,rr (R563): Z is kept, N = 0, 8 cycles. -/
def addToHl (rr : Reg16) (s : State) : Result :=
  let r := addHl s.hl (s.reg16 rr)
  ((s.setReg16 .hl r.1).setFlags { z := s.flagZ, n := false, h := r.2.1, c := r.2.2 }).done 8

/-- INC BC (R561). -/
def execIncBc (s : State) : Result := stepR16 1 .bc s

/-- INC DE (R561). -/
def execIncDe (s : State) : Result := stepR16 1 .de s

/-- INC HL (R561). -/
def execIncHl (s : State) : Result := stepR16 1 .hl s

/-- INC SP (R561). -/
def execIncSp (s : State) : Result := stepR16 1 .sp s

/-- DEC BC (R562). -/
def execDecBc (s : State) : Result := stepR16 (-1) .bc s

/-- DEC DE (R562). -/
def execDecDe (s : State) : Result := stepR16 (-1) .de s

/-- DEC HL (R562). -/
def execDecHl (s : State) : Result := stepR16 (-1) .hl s

/-- DEC SP (R562). -/
def execDecSp (s : State) : Result := stepR16 (-1) .sp s

/-- ADD HL,BC (R563). -/
def execAddHlBc (s : State) : Result := addToHl .bc s

/-- ADD HL,DE (R563). -/
def execAddHlDe (s : State) : Result := addToHl .de s

/-- ADD HL,HL (R563). -/
def execAddHlHl (s : State) : Result := addToHl .hl s

/-- ADD HL,SP (R563). -/
def execAddHlSp (s : State) : Result := addToHl .sp s

/-- ADD SP,e8 (R564). -/
def execAddSpE8 (e8 : Byte) (s : State) : Result :=
  let r := spe s.regs.sp e8
  ((s.setSp r.1).setFlags { z := false, n := false, h := r.2.1, c := r.2.2 }).done 16

end Sys2Proof.Machine
end

