-- ==== Sys2Proof/Machine/Alu8.lean ====
section
/-! DEFINITION. The meanings of the 8-bit arithmetic and logic instructions (spec/42_alu8.md). Their results and flags are in
Sys2Proof/Machine/Flags.lean. -/

namespace Sys2Proof.Machine

/-- The state after an arithmetic or logic operation on A (R502 to R525): the flags, and A but for CP, which does not write it
(R523). -/
def State.aluTo (s : State) (op : AluOp) (v : Byte) : State :=
  let r := alu op (s.reg .a) v s.flagC
  (if op = .cp then s else s.setReg .a r.1).setFlags r.2

/-- On a register (R502, R505, R508, R511, R514, R517, R520, R523): 4 cycles. -/
def aluOnReg (op : AluOp) (r : Reg8) (s : State) : Result := (s.aluTo op (s.reg r)).done 4

/-- On the byte at HL (R503, R506, R509, R512, R515, R518, R521, R524): 8 cycles. -/
def aluOnHl (op : AluOp) (s : State) : Result := s.readThen s.hl fun v => (s.aluTo op v).done 8

/-- On an immediate (R504, R507, R510, R513, R516, R519, R522, R525): 8 cycles. -/
def aluOnN8 (op : AluOp) (n8 : Byte) (s : State) : Result := (s.aluTo op n8).done 8

/-- INC r, DEC r (R526, R528) with the operation on the byte: 4 cycles. -/
def stepReg (f : Byte → Bool → Byte × Flags) (r : Reg8) (s : State) : Result :=
  let x := f (s.reg r) s.flagC
  ((s.setReg r x.1).setFlags x.2).done 4

/-- INC (HL), DEC (HL) (R527, R529): one read and one write of the same address, 12 cycles. -/
def stepAtHl (f : Byte → Bool → Byte × Flags) (s : State) : Result :=
  s.readThen s.hl fun v =>
    let x := f v s.flagC
    s.writeThen s.hl x.1 fun s1 => (s1.setFlags x.2).done 12

/-- ADD A,B (R502). -/
def execAddAB (s : State) : Result := aluOnReg .add .b s

/-- ADD A,C (R502). -/
def execAddAC (s : State) : Result := aluOnReg .add .c s

/-- ADD A,D (R502). -/
def execAddAD (s : State) : Result := aluOnReg .add .d s

/-- ADD A,E (R502). -/
def execAddAE (s : State) : Result := aluOnReg .add .e s

/-- ADD A,H (R502). -/
def execAddAH (s : State) : Result := aluOnReg .add .h s

/-- ADD A,L (R502). -/
def execAddAL (s : State) : Result := aluOnReg .add .l s

/-- ADD A,A (R502). -/
def execAddAA (s : State) : Result := aluOnReg .add .a s

/-- ADD A,(HL) (R503). -/
def execAddAAtHl (s : State) : Result := aluOnHl .add s

/-- ADD A,n8 (R504). -/
def execAddAN8 (n8 : Byte) (s : State) : Result := aluOnN8 .add n8 s

/-- ADC A,B (R505). -/
def execAdcAB (s : State) : Result := aluOnReg .adc .b s

/-- ADC A,C (R505). -/
def execAdcAC (s : State) : Result := aluOnReg .adc .c s

/-- ADC A,D (R505). -/
def execAdcAD (s : State) : Result := aluOnReg .adc .d s

/-- ADC A,E (R505). -/
def execAdcAE (s : State) : Result := aluOnReg .adc .e s

/-- ADC A,H (R505). -/
def execAdcAH (s : State) : Result := aluOnReg .adc .h s

/-- ADC A,L (R505). -/
def execAdcAL (s : State) : Result := aluOnReg .adc .l s

/-- ADC A,A (R505). -/
def execAdcAA (s : State) : Result := aluOnReg .adc .a s

/-- ADC A,(HL) (R506). -/
def execAdcAAtHl (s : State) : Result := aluOnHl .adc s

/-- ADC A,n8 (R507). -/
def execAdcAN8 (n8 : Byte) (s : State) : Result := aluOnN8 .adc n8 s

/-- SUB B (R508). -/
def execSubB (s : State) : Result := aluOnReg .sub .b s

/-- SUB C (R508). -/
def execSubC (s : State) : Result := aluOnReg .sub .c s

/-- SUB D (R508). -/
def execSubD (s : State) : Result := aluOnReg .sub .d s

/-- SUB E (R508). -/
def execSubE (s : State) : Result := aluOnReg .sub .e s

/-- SUB H (R508). -/
def execSubH (s : State) : Result := aluOnReg .sub .h s

/-- SUB L (R508). -/
def execSubL (s : State) : Result := aluOnReg .sub .l s

/-- SUB A (R508). -/
def execSubA (s : State) : Result := aluOnReg .sub .a s

/-- SUB (HL) (R509). -/
def execSubAtHl (s : State) : Result := aluOnHl .sub s

/-- SUB n8 (R510). -/
def execSubN8 (n8 : Byte) (s : State) : Result := aluOnN8 .sub n8 s

/-- SBC A,B (R511). -/
def execSbcAB (s : State) : Result := aluOnReg .sbc .b s

/-- SBC A,C (R511). -/
def execSbcAC (s : State) : Result := aluOnReg .sbc .c s

/-- SBC A,D (R511). -/
def execSbcAD (s : State) : Result := aluOnReg .sbc .d s

/-- SBC A,E (R511). -/
def execSbcAE (s : State) : Result := aluOnReg .sbc .e s

/-- SBC A,H (R511). -/
def execSbcAH (s : State) : Result := aluOnReg .sbc .h s

/-- SBC A,L (R511). -/
def execSbcAL (s : State) : Result := aluOnReg .sbc .l s

/-- SBC A,A (R511). -/
def execSbcAA (s : State) : Result := aluOnReg .sbc .a s

/-- SBC A,(HL) (R512). -/
def execSbcAAtHl (s : State) : Result := aluOnHl .sbc s

/-- SBC A,n8 (R513). -/
def execSbcAN8 (n8 : Byte) (s : State) : Result := aluOnN8 .sbc n8 s

/-- AND B (R514). -/
def execAndB (s : State) : Result := aluOnReg .and .b s

/-- AND C (R514). -/
def execAndC (s : State) : Result := aluOnReg .and .c s

/-- AND D (R514). -/
def execAndD (s : State) : Result := aluOnReg .and .d s

/-- AND E (R514). -/
def execAndE (s : State) : Result := aluOnReg .and .e s

/-- AND H (R514). -/
def execAndH (s : State) : Result := aluOnReg .and .h s

/-- AND L (R514). -/
def execAndL (s : State) : Result := aluOnReg .and .l s

/-- AND A (R514). -/
def execAndA (s : State) : Result := aluOnReg .and .a s

/-- AND (HL) (R515). -/
def execAndAtHl (s : State) : Result := aluOnHl .and s

/-- AND n8 (R516). -/
def execAndN8 (n8 : Byte) (s : State) : Result := aluOnN8 .and n8 s

/-- XOR B (R517). -/
def execXorB (s : State) : Result := aluOnReg .xor .b s

/-- XOR C (R517). -/
def execXorC (s : State) : Result := aluOnReg .xor .c s

/-- XOR D (R517). -/
def execXorD (s : State) : Result := aluOnReg .xor .d s

/-- XOR E (R517). -/
def execXorE (s : State) : Result := aluOnReg .xor .e s

/-- XOR H (R517). -/
def execXorH (s : State) : Result := aluOnReg .xor .h s

/-- XOR L (R517). -/
def execXorL (s : State) : Result := aluOnReg .xor .l s

/-- XOR A (R517). -/
def execXorA (s : State) : Result := aluOnReg .xor .a s

/-- XOR (HL) (R518). -/
def execXorAtHl (s : State) : Result := aluOnHl .xor s

/-- XOR n8 (R519). -/
def execXorN8 (n8 : Byte) (s : State) : Result := aluOnN8 .xor n8 s

/-- OR B (R520). -/
def execOrB (s : State) : Result := aluOnReg .or .b s

/-- OR C (R520). -/
def execOrC (s : State) : Result := aluOnReg .or .c s

/-- OR D (R520). -/
def execOrD (s : State) : Result := aluOnReg .or .d s

/-- OR E (R520). -/
def execOrE (s : State) : Result := aluOnReg .or .e s

/-- OR H (R520). -/
def execOrH (s : State) : Result := aluOnReg .or .h s

/-- OR L (R520). -/
def execOrL (s : State) : Result := aluOnReg .or .l s

/-- OR A (R520). -/
def execOrA (s : State) : Result := aluOnReg .or .a s

/-- OR (HL) (R521). -/
def execOrAtHl (s : State) : Result := aluOnHl .or s

/-- OR n8 (R522). -/
def execOrN8 (n8 : Byte) (s : State) : Result := aluOnN8 .or n8 s

/-- CP B (R523). -/
def execCpB (s : State) : Result := aluOnReg .cp .b s

/-- CP C (R523). -/
def execCpC (s : State) : Result := aluOnReg .cp .c s

/-- CP D (R523). -/
def execCpD (s : State) : Result := aluOnReg .cp .d s

/-- CP E (R523). -/
def execCpE (s : State) : Result := aluOnReg .cp .e s

/-- CP H (R523). -/
def execCpH (s : State) : Result := aluOnReg .cp .h s

/-- CP L (R523). -/
def execCpL (s : State) : Result := aluOnReg .cp .l s

/-- CP A (R523). -/
def execCpA (s : State) : Result := aluOnReg .cp .a s

/-- CP (HL) (R524). -/
def execCpAtHl (s : State) : Result := aluOnHl .cp s

/-- CP n8 (R525). -/
def execCpN8 (n8 : Byte) (s : State) : Result := aluOnN8 .cp n8 s

/-- INC B (R526). -/
def execIncB (s : State) : Result := stepReg inc8 .b s

/-- INC C (R526). -/
def execIncC (s : State) : Result := stepReg inc8 .c s

/-- INC D (R526). -/
def execIncD (s : State) : Result := stepReg inc8 .d s

/-- INC E (R526). -/
def execIncE (s : State) : Result := stepReg inc8 .e s

/-- INC H (R526). -/
def execIncH (s : State) : Result := stepReg inc8 .h s

/-- INC L (R526). -/
def execIncL (s : State) : Result := stepReg inc8 .l s

/-- INC A (R526). -/
def execIncA (s : State) : Result := stepReg inc8 .a s

/-- INC (HL) (R527). -/
def execIncAtHl (s : State) : Result := stepAtHl inc8 s

/-- DEC B (R528). -/
def execDecB (s : State) : Result := stepReg dec8 .b s

/-- DEC C (R528). -/
def execDecC (s : State) : Result := stepReg dec8 .c s

/-- DEC D (R528). -/
def execDecD (s : State) : Result := stepReg dec8 .d s

/-- DEC E (R528). -/
def execDecE (s : State) : Result := stepReg dec8 .e s

/-- DEC H (R528). -/
def execDecH (s : State) : Result := stepReg dec8 .h s

/-- DEC L (R528). -/
def execDecL (s : State) : Result := stepReg dec8 .l s

/-- DEC A (R528). -/
def execDecA (s : State) : Result := stepReg dec8 .a s

/-- DEC (HL) (R529). -/
def execDecAtHl (s : State) : Result := stepAtHl dec8 s

/-- DAA (R530). -/
def execDaa (s : State) : Result :=
  let r := daa (s.reg .a) s.flagN s.flagH s.flagC
  ((s.setReg .a r.1).setFlags r.2).done 4

/-- CPL (R531). -/
def execCpl (s : State) : Result :=
  ((s.setReg .a (~~~(s.reg .a))).setFlags { z := s.flagZ, n := true, h := true, c := s.flagC }).done 4

/-- SCF (R532). -/
def execScf (s : State) : Result := (s.setFlags { z := s.flagZ, n := false, h := false, c := true }).done 4

/-- CCF (R533). -/
def execCcf (s : State) : Result := (s.setFlags { z := s.flagZ, n := false, h := false, c := !s.flagC }).done 4

end Sys2Proof.Machine
end

