-- ==== Sys2Proof/Machine/Control.lean ====
section
/-! DEFINITION. The meanings of the jumps, calls, returns and RST (spec/45_control.md). PC in the state a meaning runs on is PC_next. -/

namespace Sys2Proof.Machine

/-- JP cc,a16 (R652): 16 cycles taken, 12 not taken. -/
def jumpIf (cc : Cond) (t : Word) (s : State) : Result := if s.cond cc then (s.setPc t).done 16 else s.done 12

/-- PC <- (PC + sext_16(e)) mod 2^16 (R654): PC is that of the next instruction. -/
def State.branch (s : State) (e8 : Byte) : State := s.setPc (s.regs.pc + sext16 e8)

/-- JR cc,e8 (R655): 12 cycles taken, 8 not taken. -/
def branchIf (cc : Cond) (e8 : Byte) (s : State) : Result := if s.cond cc then (s.branch e8).done 12 else s.done 8

/-- push16(PC); PC <- t, `n` cycles (R656, R661): the pushed value is the address of the next instruction. -/
def callTo (t : Word) (n : Nat) (s : State) : Result := s.push16Then s.regs.pc fun s1 => (s1.setPc t).done n

/-- CALL cc,a16 (R657): 24 cycles taken, 12 not taken. -/
def callIf (cc : Cond) (t : Word) (s : State) : Result := if s.cond cc then callTo t 24 s else s.done 12

/-- PC <- pop16(), `n` cycles (R658). -/
def returnTo (n : Nat) (s : State) : Result := s.pop16Then fun v s1 => (s1.setPc v).done n

/-- RET cc (R659): 20 cycles taken; not taken no bus access, 8 cycles. -/
def returnIf (cc : Cond) (s : State) : Result := if s.cond cc then returnTo 20 s else s.done 8

/-- RST y*8 (R661): 16 cycles. -/
def restart (y : Fin 8) (s : State) : Result := callTo (BitVec.ofNat 16 (y.val * 8)) 16 s

/-- JP a16 (R651). -/
def execJpA16 (a16 : Word) (s : State) : Result := (s.setPc a16).done 16

/-- JP NZ,a16 (R652). -/
def execJpNzA16 (a16 : Word) (s : State) : Result := jumpIf .nz a16 s

/-- JP Z,a16 (R652). -/
def execJpZA16 (a16 : Word) (s : State) : Result := jumpIf .z a16 s

/-- JP NC,a16 (R652). -/
def execJpNcA16 (a16 : Word) (s : State) : Result := jumpIf .nc a16 s

/-- JP C,a16 (R652). -/
def execJpCA16 (a16 : Word) (s : State) : Result := jumpIf .c a16 s

/-- JP HL (R653). -/
def execJpHl (s : State) : Result := (s.setPc s.hl).done 4

/-- JR e8 (R654). -/
def execJrE8 (e8 : Byte) (s : State) : Result := (s.branch e8).done 12

/-- JR NZ,e8 (R655). -/
def execJrNzE8 (e8 : Byte) (s : State) : Result := branchIf .nz e8 s

/-- JR Z,e8 (R655). -/
def execJrZE8 (e8 : Byte) (s : State) : Result := branchIf .z e8 s

/-- JR NC,e8 (R655). -/
def execJrNcE8 (e8 : Byte) (s : State) : Result := branchIf .nc e8 s

/-- JR C,e8 (R655). -/
def execJrCE8 (e8 : Byte) (s : State) : Result := branchIf .c e8 s

/-- CALL a16 (R656). -/
def execCallA16 (a16 : Word) (s : State) : Result := callTo a16 24 s

/-- CALL NZ,a16 (R657). -/
def execCallNzA16 (a16 : Word) (s : State) : Result := callIf .nz a16 s

/-- CALL Z,a16 (R657). -/
def execCallZA16 (a16 : Word) (s : State) : Result := callIf .z a16 s

/-- CALL NC,a16 (R657). -/
def execCallNcA16 (a16 : Word) (s : State) : Result := callIf .nc a16 s

/-- CALL C,a16 (R657). -/
def execCallCA16 (a16 : Word) (s : State) : Result := callIf .c a16 s

/-- RET (R658). -/
def execRet (s : State) : Result := returnTo 16 s

/-- RET NZ (R659). -/
def execRetNz (s : State) : Result := returnIf .nz s

/-- RET Z (R659). -/
def execRetZ (s : State) : Result := returnIf .z s

/-- RET NC (R659). -/
def execRetNc (s : State) : Result := returnIf .nc s

/-- RET C (R659). -/
def execRetC (s : State) : Result := returnIf .c s

/-- RETI (R660). -/
def execReti (s : State) : Result := s.returnFromInterrupt 16

/-- RST 00H (R661). -/
def execRst00 (s : State) : Result := restart 0 s

/-- RST 08H (R661). -/
def execRst08 (s : State) : Result := restart 1 s

/-- RST 10H (R661). -/
def execRst10 (s : State) : Result := restart 2 s

/-- RST 18H (R661). -/
def execRst18 (s : State) : Result := restart 3 s

/-- RST 20H (R661). -/
def execRst20 (s : State) : Result := restart 4 s

/-- RST 28H (R661). -/
def execRst28 (s : State) : Result := restart 5 s

/-- RST 30H (R661). -/
def execRst30 (s : State) : Result := restart 6 s

/-- RST 38H (R661). -/
def execRst38 (s : State) : Result := restart 7 s

end Sys2Proof.Machine
end

