-- ==== Sys2Proof/Machine/Load16.lean ====
section
/-! DEFINITION. The meanings of the 16-bit loads and the stack (spec/41_load16.md). -/

namespace Sys2Proof.Machine

/-- LD rr,n16 (R450): 12 cycles. -/
def loadR16 (rr : Reg16) (n16 : Word) (s : State) : Result := (s.setReg16 rr n16).done 12

/-- PUSH rr (R454): 16 cycles. -/
def pushR16 (p : StackPair) (s : State) : Result := s.push16Then (s.reg16 (pairOf p)) fun s1 => s1.done 16

/-- POP rr (R456): 12 cycles. -/
def popR16 (p : StackPair) (s : State) : Result := s.pop16Then fun v s1 => (s1.setReg16 (pairOf p) v).done 12

/-- LD BC,n16 (R450). -/
def execLdBcN16 (n16 : Word) (s : State) : Result := loadR16 .bc n16 s

/-- LD DE,n16 (R450). -/
def execLdDeN16 (n16 : Word) (s : State) : Result := loadR16 .de n16 s

/-- LD HL,n16 (R450). -/
def execLdHlN16 (n16 : Word) (s : State) : Result := loadR16 .hl n16 s

/-- LD SP,n16 (R450). -/
def execLdSpN16 (n16 : Word) (s : State) : Result := loadR16 .sp n16 s

/-- LD (a16),SP (R451). -/
def execLdAtA16Sp (a16 : Word) (s : State) : Result :=
  s.writeThen a16 (loByte s.regs.sp) fun s1 => s1.writeThen (a16 + 1) (hiByte s.regs.sp) fun s2 => s2.done 20

/-- LD SP,HL (R452). -/
def execLdSpHl (s : State) : Result := (s.setSp s.hl).done 8

/-- LD HL,SP+e8 (R453). -/
def execLdHlSpE8 (e8 : Byte) (s : State) : Result :=
  let r := spe s.regs.sp e8
  ((s.setReg16 .hl r.1).setFlags { z := false, n := false, h := r.2.1, c := r.2.2 }).done 12

/-- PUSH BC (R454). -/
def execPushBc (s : State) : Result := pushR16 .bc s

/-- PUSH DE (R454). -/
def execPushDe (s : State) : Result := pushR16 .de s

/-- PUSH HL (R454). -/
def execPushHl (s : State) : Result := pushR16 .hl s

/-- PUSH AF (R455). -/
def execPushAf (s : State) : Result := s.push16Then (pair s.regs.a (s.regs.f &&& 0xF0)) fun s1 => s1.done 16

/-- POP BC (R456). -/
def execPopBc (s : State) : Result := popR16 .bc s

/-- POP DE (R456). -/
def execPopDe (s : State) : Result := popR16 .de s

/-- POP HL (R456). -/
def execPopHl (s : State) : Result := popR16 .hl s

/-- POP AF (R457). -/
def execPopAf (s : State) : Result := s.pop16Then fun v s1 => ((s1.setReg .a (hiByte v)).setF (loByte v)).done 12

end Sys2Proof.Machine
end

