-- ==== Sys2Proof/Machine/Load8.lean ====
section
/-! DEFINITION. The meanings of the 8-bit loads (spec/40_load8.md): the shared forms, then one definition per instruction. A meaning
runs on the state after the instruction's bytes have been fetched: PC is at the next instruction (spec/00_scope.md R18). -/

namespace Sys2Proof.Machine

/-- LD r,r2 (R400): `x[r] <- x[r2]`, 4 cycles. -/
def loadReg (r r2 : Reg8) (s : State) : Result := (s.setReg r (s.reg r2)).done 4

/-- LD r,(HL) (R401): the read uses the old HL, 8 cycles. -/
def loadRegAtHl (r : Reg8) (s : State) : Result := s.readThen s.hl fun v => (s.setReg r v).done 8

/-- LD (HL),r (R402): 8 cycles. -/
def storeRegAtHl (r : Reg8) (s : State) : Result := s.writeThen s.hl (s.reg r) fun s1 => s1.done 8

/-- LD r,n8 (R403): 8 cycles. -/
def loadRegN8 (r : Reg8) (n8 : Byte) (s : State) : Result := (s.setReg r n8).done 8

/-- `x[A] <- MemRead(a, 1)`, `n` cycles (R405, R406, R409, R411, R413). -/
def loadA (a : Word) (n : Nat) (s : State) : Result := s.readThen a fun v => (s.setReg .a v).done n

/-- `MemWrite(a, 1, x[A])`, `n` cycles (R407, R408, R410, R412, R414). -/
def storeA (a : Word) (n : Nat) (s : State) : Result := s.writeThen a (s.reg .a) fun s1 => s1.done n

/-- The address 0xFF00 + n of LDH and LD (C) (R303, R413). -/
def highPage (n : Byte) : Word := 0xFF00 + n.setWidth 16

/-- LD A,(HL+) and LD A,(HL-) (R415, R416): HL changes by `step`, 8 cycles. -/
def loadAHlStep (step : Word) (s : State) : Result :=
  s.readThen s.hl fun v => ((s.setReg .a v).setReg16 .hl (s.hl + step)).done 8

/-- LD (HL+),A and LD (HL-),A (R417, R418): HL changes even when the write is blocked or dropped, 8 cycles. -/
def storeAHlStep (step : Word) (s : State) : Result :=
  s.writeThen s.hl (s.reg .a) fun s1 => (s1.setReg16 .hl (s.hl + step)).done 8

/-- LD B,B (R400). -/
def execLdBB (s : State) : Result := loadReg .b .b s

/-- LD B,C (R400). -/
def execLdBC (s : State) : Result := loadReg .b .c s

/-- LD B,D (R400). -/
def execLdBD (s : State) : Result := loadReg .b .d s

/-- LD B,E (R400). -/
def execLdBE (s : State) : Result := loadReg .b .e s

/-- LD B,H (R400). -/
def execLdBH (s : State) : Result := loadReg .b .h s

/-- LD B,L (R400). -/
def execLdBL (s : State) : Result := loadReg .b .l s

/-- LD B,A (R400). -/
def execLdBA (s : State) : Result := loadReg .b .a s

/-- LD C,B (R400). -/
def execLdCB (s : State) : Result := loadReg .c .b s

/-- LD C,C (R400). -/
def execLdCC (s : State) : Result := loadReg .c .c s

/-- LD C,D (R400). -/
def execLdCD (s : State) : Result := loadReg .c .d s

/-- LD C,E (R400). -/
def execLdCE (s : State) : Result := loadReg .c .e s

/-- LD C,H (R400). -/
def execLdCH (s : State) : Result := loadReg .c .h s

/-- LD C,L (R400). -/
def execLdCL (s : State) : Result := loadReg .c .l s

/-- LD C,A (R400). -/
def execLdCA (s : State) : Result := loadReg .c .a s

/-- LD D,B (R400). -/
def execLdDB (s : State) : Result := loadReg .d .b s

/-- LD D,C (R400). -/
def execLdDC (s : State) : Result := loadReg .d .c s

/-- LD D,D (R400). -/
def execLdDD (s : State) : Result := loadReg .d .d s

/-- LD D,E (R400). -/
def execLdDE (s : State) : Result := loadReg .d .e s

/-- LD D,H (R400). -/
def execLdDH (s : State) : Result := loadReg .d .h s

/-- LD D,L (R400). -/
def execLdDL (s : State) : Result := loadReg .d .l s

/-- LD D,A (R400). -/
def execLdDA (s : State) : Result := loadReg .d .a s

/-- LD E,B (R400). -/
def execLdEB (s : State) : Result := loadReg .e .b s

/-- LD E,C (R400). -/
def execLdEC (s : State) : Result := loadReg .e .c s

/-- LD E,D (R400). -/
def execLdED (s : State) : Result := loadReg .e .d s

/-- LD E,E (R400). -/
def execLdEE (s : State) : Result := loadReg .e .e s

/-- LD E,H (R400). -/
def execLdEH (s : State) : Result := loadReg .e .h s

/-- LD E,L (R400). -/
def execLdEL (s : State) : Result := loadReg .e .l s

/-- LD E,A (R400). -/
def execLdEA (s : State) : Result := loadReg .e .a s

/-- LD H,B (R400). -/
def execLdHB (s : State) : Result := loadReg .h .b s

/-- LD H,C (R400). -/
def execLdHC (s : State) : Result := loadReg .h .c s

/-- LD H,D (R400). -/
def execLdHD (s : State) : Result := loadReg .h .d s

/-- LD H,E (R400). -/
def execLdHE (s : State) : Result := loadReg .h .e s

/-- LD H,H (R400). -/
def execLdHH (s : State) : Result := loadReg .h .h s

/-- LD H,L (R400). -/
def execLdHL (s : State) : Result := loadReg .h .l s

/-- LD H,A (R400). -/
def execLdHA (s : State) : Result := loadReg .h .a s

/-- LD L,B (R400). -/
def execLdLB (s : State) : Result := loadReg .l .b s

/-- LD L,C (R400). -/
def execLdLC (s : State) : Result := loadReg .l .c s

/-- LD L,D (R400). -/
def execLdLD (s : State) : Result := loadReg .l .d s

/-- LD L,E (R400). -/
def execLdLE (s : State) : Result := loadReg .l .e s

/-- LD L,H (R400). -/
def execLdLH (s : State) : Result := loadReg .l .h s

/-- LD L,L (R400). -/
def execLdLL (s : State) : Result := loadReg .l .l s

/-- LD L,A (R400). -/
def execLdLA (s : State) : Result := loadReg .l .a s

/-- LD A,B (R400). -/
def execLdAB (s : State) : Result := loadReg .a .b s

/-- LD A,C (R400). -/
def execLdAC (s : State) : Result := loadReg .a .c s

/-- LD A,D (R400). -/
def execLdAD (s : State) : Result := loadReg .a .d s

/-- LD A,E (R400). -/
def execLdAE (s : State) : Result := loadReg .a .e s

/-- LD A,H (R400). -/
def execLdAH (s : State) : Result := loadReg .a .h s

/-- LD A,L (R400). -/
def execLdAL (s : State) : Result := loadReg .a .l s

/-- LD A,A (R400). -/
def execLdAA (s : State) : Result := loadReg .a .a s

/-- LD B,(HL) (R401). -/
def execLdBAtHl (s : State) : Result := loadRegAtHl .b s

/-- LD C,(HL) (R401). -/
def execLdCAtHl (s : State) : Result := loadRegAtHl .c s

/-- LD D,(HL) (R401). -/
def execLdDAtHl (s : State) : Result := loadRegAtHl .d s

/-- LD E,(HL) (R401). -/
def execLdEAtHl (s : State) : Result := loadRegAtHl .e s

/-- LD H,(HL) (R401). -/
def execLdHAtHl (s : State) : Result := loadRegAtHl .h s

/-- LD L,(HL) (R401). -/
def execLdLAtHl (s : State) : Result := loadRegAtHl .l s

/-- LD A,(HL) (R401). -/
def execLdAAtHl (s : State) : Result := loadRegAtHl .a s

/-- LD (HL),B (R402). -/
def execLdAtHlB (s : State) : Result := storeRegAtHl .b s

/-- LD (HL),C (R402). -/
def execLdAtHlC (s : State) : Result := storeRegAtHl .c s

/-- LD (HL),D (R402). -/
def execLdAtHlD (s : State) : Result := storeRegAtHl .d s

/-- LD (HL),E (R402). -/
def execLdAtHlE (s : State) : Result := storeRegAtHl .e s

/-- LD (HL),H (R402). -/
def execLdAtHlH (s : State) : Result := storeRegAtHl .h s

/-- LD (HL),L (R402). -/
def execLdAtHlL (s : State) : Result := storeRegAtHl .l s

/-- LD (HL),A (R402). -/
def execLdAtHlA (s : State) : Result := storeRegAtHl .a s

/-- LD B,n8 (R403). -/
def execLdBN8 (n8 : Byte) (s : State) : Result := loadRegN8 .b n8 s

/-- LD C,n8 (R403). -/
def execLdCN8 (n8 : Byte) (s : State) : Result := loadRegN8 .c n8 s

/-- LD D,n8 (R403). -/
def execLdDN8 (n8 : Byte) (s : State) : Result := loadRegN8 .d n8 s

/-- LD E,n8 (R403). -/
def execLdEN8 (n8 : Byte) (s : State) : Result := loadRegN8 .e n8 s

/-- LD H,n8 (R403). -/
def execLdHN8 (n8 : Byte) (s : State) : Result := loadRegN8 .h n8 s

/-- LD L,n8 (R403). -/
def execLdLN8 (n8 : Byte) (s : State) : Result := loadRegN8 .l n8 s

/-- LD A,n8 (R403). -/
def execLdAN8 (n8 : Byte) (s : State) : Result := loadRegN8 .a n8 s

/-- LD (HL),n8 (R404). -/
def execLdAtHlN8 (n8 : Byte) (s : State) : Result := s.writeThen s.hl n8 fun s1 => s1.done 12

/-- LD A,(BC) (R405). -/
def execLdAAtBc (s : State) : Result := loadA (s.reg16 .bc) 8 s

/-- LD A,(DE) (R406). -/
def execLdAAtDe (s : State) : Result := loadA (s.reg16 .de) 8 s

/-- LD (BC),A (R407). -/
def execLdAtBcA (s : State) : Result := storeA (s.reg16 .bc) 8 s

/-- LD (DE),A (R408). -/
def execLdAtDeA (s : State) : Result := storeA (s.reg16 .de) 8 s

/-- LD A,(a16) (R409). -/
def execLdAAtA16 (a16 : Word) (s : State) : Result := loadA a16 16 s

/-- LD (a16),A (R410). -/
def execLdAtA16A (a16 : Word) (s : State) : Result := storeA a16 16 s

/-- LDH A,(a8) (R411). -/
def execLdhAAtA8 (a8 : Byte) (s : State) : Result := loadA (highPage a8) 12 s

/-- LDH (a8),A (R412). -/
def execLdhAtA8A (a8 : Byte) (s : State) : Result := storeA (highPage a8) 12 s

/-- LD A,(C) (R413). -/
def execLdAAtC (s : State) : Result := loadA (highPage (s.reg .c)) 8 s

/-- LD (C),A (R414). -/
def execLdAtCA (s : State) : Result := storeA (highPage (s.reg .c)) 8 s

/-- LD A,(HL+) (R415). -/
def execLdAAtHlInc (s : State) : Result := loadAHlStep 1 s

/-- LD A,(HL-) (R416). -/
def execLdAAtHlDec (s : State) : Result := loadAHlStep (-1) s

/-- LD (HL+),A (R417). -/
def execLdAtHlIncA (s : State) : Result := storeAHlStep 1 s

/-- LD (HL-),A (R418). -/
def execLdAtHlDecA (s : State) : Result := storeAHlStep (-1) s

end Sys2Proof.Machine
end

