-- ==== Sys2Proof/Machine/RotateBit.lean ====
section
/-! DEFINITION. The meanings of the accumulator rotates and of the CB-prefixed block (spec/44_rotate_bit.md), and of the row PREFIX CB
(spec/46_system.md R713). -/

namespace Sys2Proof.Machine

/-- RLCA, RRCA, RLA, RRA (R600 to R603): the rotate of A with Z forced to 0, 4 cycles. -/
def rotA (op : RotOp) (s : State) : Result :=
  let r := rot op (s.reg .a) s.flagC
  ((s.setReg .a r.1).setFlags (rotAFlags r.2)).done 4

/-- A CB rotate or shift of a register (R605 to R619): 8 cycles. -/
def rotOnReg (op : RotOp) (r : Reg8) (s : State) : Result :=
  let x := rot op (s.reg r) s.flagC
  ((s.setReg r x.1).setFlags (rotFlags x)).done 8

/-- The same of the byte at HL, read once and written once at the same address (R604, R606 to R620): 16 cycles. -/
def rotOnHl (op : RotOp) (s : State) : Result :=
  s.readThen s.hl fun v =>
    let x := rot op v s.flagC
    s.writeThen s.hl x.1 fun s1 => (s1.setFlags (rotFlags x)).done 16

/-- BIT b,r (R621): no register is written, 8 cycles. -/
def bitOnReg (b : Fin 8) (r : Reg8) (s : State) : Result := (s.setFlags (bitFlags (s.reg r) b s.flagC)).done 8

/-- BIT b,(HL) (R622): memory is not written, 12 cycles. -/
def bitOnHl (b : Fin 8) (s : State) : Result := s.readThen s.hl fun v => (s.setFlags (bitFlags v b s.flagC)).done 12

/-- RES b,r and SET b,r (R623, R625) with the operation on the byte: no flag, 8 cycles. -/
def mapReg (f : Byte → Byte) (r : Reg8) (s : State) : Result := (s.setReg r (f (s.reg r))).done 8

/-- RES b,(HL) and SET b,(HL) (R624, R626): no flag, 16 cycles. -/
def mapAtHl (f : Byte → Byte) (s : State) : Result :=
  s.readThen s.hl fun v => s.writeThen s.hl (f v) fun s1 => s1.done 16

/-- RLCA (R600). -/
def execRlca (s : State) : Result := rotA .rlc s

/-- RRCA (R601). -/
def execRrca (s : State) : Result := rotA .rrc s

/-- RLA (R602). -/
def execRla (s : State) : Result := rotA .rl s

/-- RRA (R603). -/
def execRra (s : State) : Result := rotA .rr s

/-- RLC B (R605). -/
def execRlcB (s : State) : Result := rotOnReg .rlc .b s

/-- RLC C (R605). -/
def execRlcC (s : State) : Result := rotOnReg .rlc .c s

/-- RLC D (R605). -/
def execRlcD (s : State) : Result := rotOnReg .rlc .d s

/-- RLC E (R605). -/
def execRlcE (s : State) : Result := rotOnReg .rlc .e s

/-- RLC H (R605). -/
def execRlcH (s : State) : Result := rotOnReg .rlc .h s

/-- RLC L (R605). -/
def execRlcL (s : State) : Result := rotOnReg .rlc .l s

/-- RLC A (R605). -/
def execRlcA (s : State) : Result := rotOnReg .rlc .a s

/-- RLC (HL) (R606). -/
def execRlcAtHl (s : State) : Result := rotOnHl .rlc s

/-- RRC B (R607). -/
def execRrcB (s : State) : Result := rotOnReg .rrc .b s

/-- RRC C (R607). -/
def execRrcC (s : State) : Result := rotOnReg .rrc .c s

/-- RRC D (R607). -/
def execRrcD (s : State) : Result := rotOnReg .rrc .d s

/-- RRC E (R607). -/
def execRrcE (s : State) : Result := rotOnReg .rrc .e s

/-- RRC H (R607). -/
def execRrcH (s : State) : Result := rotOnReg .rrc .h s

/-- RRC L (R607). -/
def execRrcL (s : State) : Result := rotOnReg .rrc .l s

/-- RRC A (R607). -/
def execRrcA (s : State) : Result := rotOnReg .rrc .a s

/-- RRC (HL) (R608). -/
def execRrcAtHl (s : State) : Result := rotOnHl .rrc s

/-- RL B (R609). -/
def execRlB (s : State) : Result := rotOnReg .rl .b s

/-- RL C (R609). -/
def execRlC (s : State) : Result := rotOnReg .rl .c s

/-- RL D (R609). -/
def execRlD (s : State) : Result := rotOnReg .rl .d s

/-- RL E (R609). -/
def execRlE (s : State) : Result := rotOnReg .rl .e s

/-- RL H (R609). -/
def execRlH (s : State) : Result := rotOnReg .rl .h s

/-- RL L (R609). -/
def execRlL (s : State) : Result := rotOnReg .rl .l s

/-- RL A (R609). -/
def execRlA (s : State) : Result := rotOnReg .rl .a s

/-- RL (HL) (R610). -/
def execRlAtHl (s : State) : Result := rotOnHl .rl s

/-- RR B (R611). -/
def execRrB (s : State) : Result := rotOnReg .rr .b s

/-- RR C (R611). -/
def execRrC (s : State) : Result := rotOnReg .rr .c s

/-- RR D (R611). -/
def execRrD (s : State) : Result := rotOnReg .rr .d s

/-- RR E (R611). -/
def execRrE (s : State) : Result := rotOnReg .rr .e s

/-- RR H (R611). -/
def execRrH (s : State) : Result := rotOnReg .rr .h s

/-- RR L (R611). -/
def execRrL (s : State) : Result := rotOnReg .rr .l s

/-- RR A (R611). -/
def execRrA (s : State) : Result := rotOnReg .rr .a s

/-- RR (HL) (R612). -/
def execRrAtHl (s : State) : Result := rotOnHl .rr s

/-- SLA B (R613). -/
def execSlaB (s : State) : Result := rotOnReg .sla .b s

/-- SLA C (R613). -/
def execSlaC (s : State) : Result := rotOnReg .sla .c s

/-- SLA D (R613). -/
def execSlaD (s : State) : Result := rotOnReg .sla .d s

/-- SLA E (R613). -/
def execSlaE (s : State) : Result := rotOnReg .sla .e s

/-- SLA H (R613). -/
def execSlaH (s : State) : Result := rotOnReg .sla .h s

/-- SLA L (R613). -/
def execSlaL (s : State) : Result := rotOnReg .sla .l s

/-- SLA A (R613). -/
def execSlaA (s : State) : Result := rotOnReg .sla .a s

/-- SLA (HL) (R614). -/
def execSlaAtHl (s : State) : Result := rotOnHl .sla s

/-- SRA B (R615). -/
def execSraB (s : State) : Result := rotOnReg .sra .b s

/-- SRA C (R615). -/
def execSraC (s : State) : Result := rotOnReg .sra .c s

/-- SRA D (R615). -/
def execSraD (s : State) : Result := rotOnReg .sra .d s

/-- SRA E (R615). -/
def execSraE (s : State) : Result := rotOnReg .sra .e s

/-- SRA H (R615). -/
def execSraH (s : State) : Result := rotOnReg .sra .h s

/-- SRA L (R615). -/
def execSraL (s : State) : Result := rotOnReg .sra .l s

/-- SRA A (R615). -/
def execSraA (s : State) : Result := rotOnReg .sra .a s

/-- SRA (HL) (R616). -/
def execSraAtHl (s : State) : Result := rotOnHl .sra s

/-- SWAP B (R617). -/
def execSwapB (s : State) : Result := rotOnReg .swap .b s

/-- SWAP C (R617). -/
def execSwapC (s : State) : Result := rotOnReg .swap .c s

/-- SWAP D (R617). -/
def execSwapD (s : State) : Result := rotOnReg .swap .d s

/-- SWAP E (R617). -/
def execSwapE (s : State) : Result := rotOnReg .swap .e s

/-- SWAP H (R617). -/
def execSwapH (s : State) : Result := rotOnReg .swap .h s

/-- SWAP L (R617). -/
def execSwapL (s : State) : Result := rotOnReg .swap .l s

/-- SWAP A (R617). -/
def execSwapA (s : State) : Result := rotOnReg .swap .a s

/-- SWAP (HL) (R618). -/
def execSwapAtHl (s : State) : Result := rotOnHl .swap s

/-- SRL B (R619). -/
def execSrlB (s : State) : Result := rotOnReg .srl .b s

/-- SRL C (R619). -/
def execSrlC (s : State) : Result := rotOnReg .srl .c s

/-- SRL D (R619). -/
def execSrlD (s : State) : Result := rotOnReg .srl .d s

/-- SRL E (R619). -/
def execSrlE (s : State) : Result := rotOnReg .srl .e s

/-- SRL H (R619). -/
def execSrlH (s : State) : Result := rotOnReg .srl .h s

/-- SRL L (R619). -/
def execSrlL (s : State) : Result := rotOnReg .srl .l s

/-- SRL A (R619). -/
def execSrlA (s : State) : Result := rotOnReg .srl .a s

/-- SRL (HL) (R620). -/
def execSrlAtHl (s : State) : Result := rotOnHl .srl s

/-- BIT 0,B (R621). -/
def execBit0B (s : State) : Result := bitOnReg 0 .b s

/-- BIT 0,C (R621). -/
def execBit0C (s : State) : Result := bitOnReg 0 .c s

/-- BIT 0,D (R621). -/
def execBit0D (s : State) : Result := bitOnReg 0 .d s

/-- BIT 0,E (R621). -/
def execBit0E (s : State) : Result := bitOnReg 0 .e s

/-- BIT 0,H (R621). -/
def execBit0H (s : State) : Result := bitOnReg 0 .h s

/-- BIT 0,L (R621). -/
def execBit0L (s : State) : Result := bitOnReg 0 .l s

/-- BIT 0,A (R621). -/
def execBit0A (s : State) : Result := bitOnReg 0 .a s

/-- BIT 0,(HL) (R622). -/
def execBit0AtHl (s : State) : Result := bitOnHl 0 s

/-- BIT 1,B (R621). -/
def execBit1B (s : State) : Result := bitOnReg 1 .b s

/-- BIT 1,C (R621). -/
def execBit1C (s : State) : Result := bitOnReg 1 .c s

/-- BIT 1,D (R621). -/
def execBit1D (s : State) : Result := bitOnReg 1 .d s

/-- BIT 1,E (R621). -/
def execBit1E (s : State) : Result := bitOnReg 1 .e s

/-- BIT 1,H (R621). -/
def execBit1H (s : State) : Result := bitOnReg 1 .h s

/-- BIT 1,L (R621). -/
def execBit1L (s : State) : Result := bitOnReg 1 .l s

/-- BIT 1,A (R621). -/
def execBit1A (s : State) : Result := bitOnReg 1 .a s

/-- BIT 1,(HL) (R622). -/
def execBit1AtHl (s : State) : Result := bitOnHl 1 s

/-- BIT 2,B (R621). -/
def execBit2B (s : State) : Result := bitOnReg 2 .b s

/-- BIT 2,C (R621). -/
def execBit2C (s : State) : Result := bitOnReg 2 .c s

/-- BIT 2,D (R621). -/
def execBit2D (s : State) : Result := bitOnReg 2 .d s

/-- BIT 2,E (R621). -/
def execBit2E (s : State) : Result := bitOnReg 2 .e s

/-- BIT 2,H (R621). -/
def execBit2H (s : State) : Result := bitOnReg 2 .h s

/-- BIT 2,L (R621). -/
def execBit2L (s : State) : Result := bitOnReg 2 .l s

/-- BIT 2,A (R621). -/
def execBit2A (s : State) : Result := bitOnReg 2 .a s

/-- BIT 2,(HL) (R622). -/
def execBit2AtHl (s : State) : Result := bitOnHl 2 s

/-- BIT 3,B (R621). -/
def execBit3B (s : State) : Result := bitOnReg 3 .b s

/-- BIT 3,C (R621). -/
def execBit3C (s : State) : Result := bitOnReg 3 .c s

/-- BIT 3,D (R621). -/
def execBit3D (s : State) : Result := bitOnReg 3 .d s

/-- BIT 3,E (R621). -/
def execBit3E (s : State) : Result := bitOnReg 3 .e s

/-- BIT 3,H (R621). -/
def execBit3H (s : State) : Result := bitOnReg 3 .h s

/-- BIT 3,L (R621). -/
def execBit3L (s : State) : Result := bitOnReg 3 .l s

/-- BIT 3,A (R621). -/
def execBit3A (s : State) : Result := bitOnReg 3 .a s

/-- BIT 3,(HL) (R622). -/
def execBit3AtHl (s : State) : Result := bitOnHl 3 s

/-- BIT 4,B (R621). -/
def execBit4B (s : State) : Result := bitOnReg 4 .b s

/-- BIT 4,C (R621). -/
def execBit4C (s : State) : Result := bitOnReg 4 .c s

/-- BIT 4,D (R621). -/
def execBit4D (s : State) : Result := bitOnReg 4 .d s

/-- BIT 4,E (R621). -/
def execBit4E (s : State) : Result := bitOnReg 4 .e s

/-- BIT 4,H (R621). -/
def execBit4H (s : State) : Result := bitOnReg 4 .h s

/-- BIT 4,L (R621). -/
def execBit4L (s : State) : Result := bitOnReg 4 .l s

/-- BIT 4,A (R621). -/
def execBit4A (s : State) : Result := bitOnReg 4 .a s

/-- BIT 4,(HL) (R622). -/
def execBit4AtHl (s : State) : Result := bitOnHl 4 s

/-- BIT 5,B (R621). -/
def execBit5B (s : State) : Result := bitOnReg 5 .b s

/-- BIT 5,C (R621). -/
def execBit5C (s : State) : Result := bitOnReg 5 .c s

/-- BIT 5,D (R621). -/
def execBit5D (s : State) : Result := bitOnReg 5 .d s

/-- BIT 5,E (R621). -/
def execBit5E (s : State) : Result := bitOnReg 5 .e s

/-- BIT 5,H (R621). -/
def execBit5H (s : State) : Result := bitOnReg 5 .h s

/-- BIT 5,L (R621). -/
def execBit5L (s : State) : Result := bitOnReg 5 .l s

/-- BIT 5,A (R621). -/
def execBit5A (s : State) : Result := bitOnReg 5 .a s

/-- BIT 5,(HL) (R622). -/
def execBit5AtHl (s : State) : Result := bitOnHl 5 s

/-- BIT 6,B (R621). -/
def execBit6B (s : State) : Result := bitOnReg 6 .b s

/-- BIT 6,C (R621). -/
def execBit6C (s : State) : Result := bitOnReg 6 .c s

/-- BIT 6,D (R621). -/
def execBit6D (s : State) : Result := bitOnReg 6 .d s

/-- BIT 6,E (R621). -/
def execBit6E (s : State) : Result := bitOnReg 6 .e s

/-- BIT 6,H (R621). -/
def execBit6H (s : State) : Result := bitOnReg 6 .h s

/-- BIT 6,L (R621). -/
def execBit6L (s : State) : Result := bitOnReg 6 .l s

/-- BIT 6,A (R621). -/
def execBit6A (s : State) : Result := bitOnReg 6 .a s

/-- BIT 6,(HL) (R622). -/
def execBit6AtHl (s : State) : Result := bitOnHl 6 s

/-- BIT 7,B (R621). -/
def execBit7B (s : State) : Result := bitOnReg 7 .b s

/-- BIT 7,C (R621). -/
def execBit7C (s : State) : Result := bitOnReg 7 .c s

/-- BIT 7,D (R621). -/
def execBit7D (s : State) : Result := bitOnReg 7 .d s

/-- BIT 7,E (R621). -/
def execBit7E (s : State) : Result := bitOnReg 7 .e s

/-- BIT 7,H (R621). -/
def execBit7H (s : State) : Result := bitOnReg 7 .h s

/-- BIT 7,L (R621). -/
def execBit7L (s : State) : Result := bitOnReg 7 .l s

/-- BIT 7,A (R621). -/
def execBit7A (s : State) : Result := bitOnReg 7 .a s

/-- BIT 7,(HL) (R622). -/
def execBit7AtHl (s : State) : Result := bitOnHl 7 s

/-- RES 0,B (R623). -/
def execRes0B (s : State) : Result := mapReg (fun v => resBit v 0) .b s

/-- RES 0,C (R623). -/
def execRes0C (s : State) : Result := mapReg (fun v => resBit v 0) .c s

/-- RES 0,D (R623). -/
def execRes0D (s : State) : Result := mapReg (fun v => resBit v 0) .d s

/-- RES 0,E (R623). -/
def execRes0E (s : State) : Result := mapReg (fun v => resBit v 0) .e s

/-- RES 0,H (R623). -/
def execRes0H (s : State) : Result := mapReg (fun v => resBit v 0) .h s

/-- RES 0,L (R623). -/
def execRes0L (s : State) : Result := mapReg (fun v => resBit v 0) .l s

/-- RES 0,A (R623). -/
def execRes0A (s : State) : Result := mapReg (fun v => resBit v 0) .a s

/-- RES 0,(HL) (R624). -/
def execRes0AtHl (s : State) : Result := mapAtHl (fun v => resBit v 0) s

/-- RES 1,B (R623). -/
def execRes1B (s : State) : Result := mapReg (fun v => resBit v 1) .b s

/-- RES 1,C (R623). -/
def execRes1C (s : State) : Result := mapReg (fun v => resBit v 1) .c s

/-- RES 1,D (R623). -/
def execRes1D (s : State) : Result := mapReg (fun v => resBit v 1) .d s

/-- RES 1,E (R623). -/
def execRes1E (s : State) : Result := mapReg (fun v => resBit v 1) .e s

/-- RES 1,H (R623). -/
def execRes1H (s : State) : Result := mapReg (fun v => resBit v 1) .h s

/-- RES 1,L (R623). -/
def execRes1L (s : State) : Result := mapReg (fun v => resBit v 1) .l s

/-- RES 1,A (R623). -/
def execRes1A (s : State) : Result := mapReg (fun v => resBit v 1) .a s

/-- RES 1,(HL) (R624). -/
def execRes1AtHl (s : State) : Result := mapAtHl (fun v => resBit v 1) s

/-- RES 2,B (R623). -/
def execRes2B (s : State) : Result := mapReg (fun v => resBit v 2) .b s

/-- RES 2,C (R623). -/
def execRes2C (s : State) : Result := mapReg (fun v => resBit v 2) .c s

/-- RES 2,D (R623). -/
def execRes2D (s : State) : Result := mapReg (fun v => resBit v 2) .d s

/-- RES 2,E (R623). -/
def execRes2E (s : State) : Result := mapReg (fun v => resBit v 2) .e s

/-- RES 2,H (R623). -/
def execRes2H (s : State) : Result := mapReg (fun v => resBit v 2) .h s

/-- RES 2,L (R623). -/
def execRes2L (s : State) : Result := mapReg (fun v => resBit v 2) .l s

/-- RES 2,A (R623). -/
def execRes2A (s : State) : Result := mapReg (fun v => resBit v 2) .a s

/-- RES 2,(HL) (R624). -/
def execRes2AtHl (s : State) : Result := mapAtHl (fun v => resBit v 2) s

/-- RES 3,B (R623). -/
def execRes3B (s : State) : Result := mapReg (fun v => resBit v 3) .b s

/-- RES 3,C (R623). -/
def execRes3C (s : State) : Result := mapReg (fun v => resBit v 3) .c s

/-- RES 3,D (R623). -/
def execRes3D (s : State) : Result := mapReg (fun v => resBit v 3) .d s

/-- RES 3,E (R623). -/
def execRes3E (s : State) : Result := mapReg (fun v => resBit v 3) .e s

/-- RES 3,H (R623). -/
def execRes3H (s : State) : Result := mapReg (fun v => resBit v 3) .h s

/-- RES 3,L (R623). -/
def execRes3L (s : State) : Result := mapReg (fun v => resBit v 3) .l s

/-- RES 3,A (R623). -/
def execRes3A (s : State) : Result := mapReg (fun v => resBit v 3) .a s

/-- RES 3,(HL) (R624). -/
def execRes3AtHl (s : State) : Result := mapAtHl (fun v => resBit v 3) s

/-- RES 4,B (R623). -/
def execRes4B (s : State) : Result := mapReg (fun v => resBit v 4) .b s

/-- RES 4,C (R623). -/
def execRes4C (s : State) : Result := mapReg (fun v => resBit v 4) .c s

/-- RES 4,D (R623). -/
def execRes4D (s : State) : Result := mapReg (fun v => resBit v 4) .d s

/-- RES 4,E (R623). -/
def execRes4E (s : State) : Result := mapReg (fun v => resBit v 4) .e s

/-- RES 4,H (R623). -/
def execRes4H (s : State) : Result := mapReg (fun v => resBit v 4) .h s

/-- RES 4,L (R623). -/
def execRes4L (s : State) : Result := mapReg (fun v => resBit v 4) .l s

/-- RES 4,A (R623). -/
def execRes4A (s : State) : Result := mapReg (fun v => resBit v 4) .a s

/-- RES 4,(HL) (R624). -/
def execRes4AtHl (s : State) : Result := mapAtHl (fun v => resBit v 4) s

/-- RES 5,B (R623). -/
def execRes5B (s : State) : Result := mapReg (fun v => resBit v 5) .b s

/-- RES 5,C (R623). -/
def execRes5C (s : State) : Result := mapReg (fun v => resBit v 5) .c s

/-- RES 5,D (R623). -/
def execRes5D (s : State) : Result := mapReg (fun v => resBit v 5) .d s

/-- RES 5,E (R623). -/
def execRes5E (s : State) : Result := mapReg (fun v => resBit v 5) .e s

/-- RES 5,H (R623). -/
def execRes5H (s : State) : Result := mapReg (fun v => resBit v 5) .h s

/-- RES 5,L (R623). -/
def execRes5L (s : State) : Result := mapReg (fun v => resBit v 5) .l s

/-- RES 5,A (R623). -/
def execRes5A (s : State) : Result := mapReg (fun v => resBit v 5) .a s

/-- RES 5,(HL) (R624). -/
def execRes5AtHl (s : State) : Result := mapAtHl (fun v => resBit v 5) s

/-- RES 6,B (R623). -/
def execRes6B (s : State) : Result := mapReg (fun v => resBit v 6) .b s

/-- RES 6,C (R623). -/
def execRes6C (s : State) : Result := mapReg (fun v => resBit v 6) .c s

/-- RES 6,D (R623). -/
def execRes6D (s : State) : Result := mapReg (fun v => resBit v 6) .d s

/-- RES 6,E (R623). -/
def execRes6E (s : State) : Result := mapReg (fun v => resBit v 6) .e s

/-- RES 6,H (R623). -/
def execRes6H (s : State) : Result := mapReg (fun v => resBit v 6) .h s

/-- RES 6,L (R623). -/
def execRes6L (s : State) : Result := mapReg (fun v => resBit v 6) .l s

/-- RES 6,A (R623). -/
def execRes6A (s : State) : Result := mapReg (fun v => resBit v 6) .a s

/-- RES 6,(HL) (R624). -/
def execRes6AtHl (s : State) : Result := mapAtHl (fun v => resBit v 6) s

/-- RES 7,B (R623). -/
def execRes7B (s : State) : Result := mapReg (fun v => resBit v 7) .b s

/-- RES 7,C (R623). -/
def execRes7C (s : State) : Result := mapReg (fun v => resBit v 7) .c s

/-- RES 7,D (R623). -/
def execRes7D (s : State) : Result := mapReg (fun v => resBit v 7) .d s

/-- RES 7,E (R623). -/
def execRes7E (s : State) : Result := mapReg (fun v => resBit v 7) .e s

/-- RES 7,H (R623). -/
def execRes7H (s : State) : Result := mapReg (fun v => resBit v 7) .h s

/-- RES 7,L (R623). -/
def execRes7L (s : State) : Result := mapReg (fun v => resBit v 7) .l s

/-- RES 7,A (R623). -/
def execRes7A (s : State) : Result := mapReg (fun v => resBit v 7) .a s

/-- RES 7,(HL) (R624). -/
def execRes7AtHl (s : State) : Result := mapAtHl (fun v => resBit v 7) s

/-- SET 0,B (R625). -/
def execSet0B (s : State) : Result := mapReg (fun v => setBit v 0) .b s

/-- SET 0,C (R625). -/
def execSet0C (s : State) : Result := mapReg (fun v => setBit v 0) .c s

/-- SET 0,D (R625). -/
def execSet0D (s : State) : Result := mapReg (fun v => setBit v 0) .d s

/-- SET 0,E (R625). -/
def execSet0E (s : State) : Result := mapReg (fun v => setBit v 0) .e s

/-- SET 0,H (R625). -/
def execSet0H (s : State) : Result := mapReg (fun v => setBit v 0) .h s

/-- SET 0,L (R625). -/
def execSet0L (s : State) : Result := mapReg (fun v => setBit v 0) .l s

/-- SET 0,A (R625). -/
def execSet0A (s : State) : Result := mapReg (fun v => setBit v 0) .a s

/-- SET 0,(HL) (R626). -/
def execSet0AtHl (s : State) : Result := mapAtHl (fun v => setBit v 0) s

/-- SET 1,B (R625). -/
def execSet1B (s : State) : Result := mapReg (fun v => setBit v 1) .b s

/-- SET 1,C (R625). -/
def execSet1C (s : State) : Result := mapReg (fun v => setBit v 1) .c s

/-- SET 1,D (R625). -/
def execSet1D (s : State) : Result := mapReg (fun v => setBit v 1) .d s

/-- SET 1,E (R625). -/
def execSet1E (s : State) : Result := mapReg (fun v => setBit v 1) .e s

/-- SET 1,H (R625). -/
def execSet1H (s : State) : Result := mapReg (fun v => setBit v 1) .h s

/-- SET 1,L (R625). -/
def execSet1L (s : State) : Result := mapReg (fun v => setBit v 1) .l s

/-- SET 1,A (R625). -/
def execSet1A (s : State) : Result := mapReg (fun v => setBit v 1) .a s

/-- SET 1,(HL) (R626). -/
def execSet1AtHl (s : State) : Result := mapAtHl (fun v => setBit v 1) s

/-- SET 2,B (R625). -/
def execSet2B (s : State) : Result := mapReg (fun v => setBit v 2) .b s

/-- SET 2,C (R625). -/
def execSet2C (s : State) : Result := mapReg (fun v => setBit v 2) .c s

/-- SET 2,D (R625). -/
def execSet2D (s : State) : Result := mapReg (fun v => setBit v 2) .d s

/-- SET 2,E (R625). -/
def execSet2E (s : State) : Result := mapReg (fun v => setBit v 2) .e s

/-- SET 2,H (R625). -/
def execSet2H (s : State) : Result := mapReg (fun v => setBit v 2) .h s

/-- SET 2,L (R625). -/
def execSet2L (s : State) : Result := mapReg (fun v => setBit v 2) .l s

/-- SET 2,A (R625). -/
def execSet2A (s : State) : Result := mapReg (fun v => setBit v 2) .a s

/-- SET 2,(HL) (R626). -/
def execSet2AtHl (s : State) : Result := mapAtHl (fun v => setBit v 2) s

/-- SET 3,B (R625). -/
def execSet3B (s : State) : Result := mapReg (fun v => setBit v 3) .b s

/-- SET 3,C (R625). -/
def execSet3C (s : State) : Result := mapReg (fun v => setBit v 3) .c s

/-- SET 3,D (R625). -/
def execSet3D (s : State) : Result := mapReg (fun v => setBit v 3) .d s

/-- SET 3,E (R625). -/
def execSet3E (s : State) : Result := mapReg (fun v => setBit v 3) .e s

/-- SET 3,H (R625). -/
def execSet3H (s : State) : Result := mapReg (fun v => setBit v 3) .h s

/-- SET 3,L (R625). -/
def execSet3L (s : State) : Result := mapReg (fun v => setBit v 3) .l s

/-- SET 3,A (R625). -/
def execSet3A (s : State) : Result := mapReg (fun v => setBit v 3) .a s

/-- SET 3,(HL) (R626). -/
def execSet3AtHl (s : State) : Result := mapAtHl (fun v => setBit v 3) s

/-- SET 4,B (R625). -/
def execSet4B (s : State) : Result := mapReg (fun v => setBit v 4) .b s

/-- SET 4,C (R625). -/
def execSet4C (s : State) : Result := mapReg (fun v => setBit v 4) .c s

/-- SET 4,D (R625). -/
def execSet4D (s : State) : Result := mapReg (fun v => setBit v 4) .d s

/-- SET 4,E (R625). -/
def execSet4E (s : State) : Result := mapReg (fun v => setBit v 4) .e s

/-- SET 4,H (R625). -/
def execSet4H (s : State) : Result := mapReg (fun v => setBit v 4) .h s

/-- SET 4,L (R625). -/
def execSet4L (s : State) : Result := mapReg (fun v => setBit v 4) .l s

/-- SET 4,A (R625). -/
def execSet4A (s : State) : Result := mapReg (fun v => setBit v 4) .a s

/-- SET 4,(HL) (R626). -/
def execSet4AtHl (s : State) : Result := mapAtHl (fun v => setBit v 4) s

/-- SET 5,B (R625). -/
def execSet5B (s : State) : Result := mapReg (fun v => setBit v 5) .b s

/-- SET 5,C (R625). -/
def execSet5C (s : State) : Result := mapReg (fun v => setBit v 5) .c s

/-- SET 5,D (R625). -/
def execSet5D (s : State) : Result := mapReg (fun v => setBit v 5) .d s

/-- SET 5,E (R625). -/
def execSet5E (s : State) : Result := mapReg (fun v => setBit v 5) .e s

/-- SET 5,H (R625). -/
def execSet5H (s : State) : Result := mapReg (fun v => setBit v 5) .h s

/-- SET 5,L (R625). -/
def execSet5L (s : State) : Result := mapReg (fun v => setBit v 5) .l s

/-- SET 5,A (R625). -/
def execSet5A (s : State) : Result := mapReg (fun v => setBit v 5) .a s

/-- SET 5,(HL) (R626). -/
def execSet5AtHl (s : State) : Result := mapAtHl (fun v => setBit v 5) s

/-- SET 6,B (R625). -/
def execSet6B (s : State) : Result := mapReg (fun v => setBit v 6) .b s

/-- SET 6,C (R625). -/
def execSet6C (s : State) : Result := mapReg (fun v => setBit v 6) .c s

/-- SET 6,D (R625). -/
def execSet6D (s : State) : Result := mapReg (fun v => setBit v 6) .d s

/-- SET 6,E (R625). -/
def execSet6E (s : State) : Result := mapReg (fun v => setBit v 6) .e s

/-- SET 6,H (R625). -/
def execSet6H (s : State) : Result := mapReg (fun v => setBit v 6) .h s

/-- SET 6,L (R625). -/
def execSet6L (s : State) : Result := mapReg (fun v => setBit v 6) .l s

/-- SET 6,A (R625). -/
def execSet6A (s : State) : Result := mapReg (fun v => setBit v 6) .a s

/-- SET 6,(HL) (R626). -/
def execSet6AtHl (s : State) : Result := mapAtHl (fun v => setBit v 6) s

/-- SET 7,B (R625). -/
def execSet7B (s : State) : Result := mapReg (fun v => setBit v 7) .b s

/-- SET 7,C (R625). -/
def execSet7C (s : State) : Result := mapReg (fun v => setBit v 7) .c s

/-- SET 7,D (R625). -/
def execSet7D (s : State) : Result := mapReg (fun v => setBit v 7) .d s

/-- SET 7,E (R625). -/
def execSet7E (s : State) : Result := mapReg (fun v => setBit v 7) .e s

/-- SET 7,H (R625). -/
def execSet7H (s : State) : Result := mapReg (fun v => setBit v 7) .h s

/-- SET 7,L (R625). -/
def execSet7L (s : State) : Result := mapReg (fun v => setBit v 7) .l s

/-- SET 7,A (R625). -/
def execSet7A (s : State) : Result := mapReg (fun v => setBit v 7) .a s

/-- SET 7,(HL) (R626). -/
def execSet7AtHl (s : State) : Result := mapAtHl (fun v => setBit v 7) s

/-- r8(z) of R302; none for code 6, the byte at HL. -/
def regOfCode (z : BitVec 3) : Option Reg8 :=
  [some .b, some .c, some .d, some .e, some .h, some .l, none, some .a].getD z.toNat none

/-- rot(y) of R302. -/
def rotOfCode (y : BitVec 3) : RotOp :=
  [RotOp.rlc, .rrc, .rl, .rr, .sla, .sra, .swap, .srl].getD y.toNat .rlc

/-- PREFIX CB (R713): the sub-opcode having been read, execute the CB row it selects, by the fields x, y, z of R604 and the
"By field" reading of R312; the cycles are that row's. -/
def execPrefixCb (sub : Byte) (s : State) : Result :=
  let y : BitVec 3 := sub.extractLsb' 3 3
  let b : Fin 8 := y.toFin
  match (sub.extractLsb' 6 2).toNat, regOfCode (sub.extractLsb' 0 3) with
  | 0, some r => rotOnReg (rotOfCode y) r s
  | 0, none => rotOnHl (rotOfCode y) s
  | 1, some r => bitOnReg b r s
  | 1, none => bitOnHl b s
  | 2, some r => mapReg (fun v => resBit v b) r s
  | 2, none => mapAtHl (fun v => resBit v b) s
  | _, some r => mapReg (fun v => setBit v b) r s
  | _, none => mapAtHl (fun v => setBit v b) s

end Sys2Proof.Machine
end

