-- ==== Sys2Proof/Machine/System.lean ====
section
/-! DEFINITION. The meanings of NOP, STOP, DI, EI, HALT and the eleven illegal opcodes (spec/46_system.md). -/

namespace Sys2Proof.Machine

/-- An illegal opcode (R704): raise IllegalOpcode(op, a), with `a` the address of the opcode. The fault is taken after the fetch: PC and
IME_PENDING are as the fetch left them. -/
def illegal (op : Byte) (s : State) : Result := s.raise (.illegalOpcode op s.opAddr)

/-- NOP (R705). -/
def execNop (s : State) : Result := s.done 4

/-- STOP (R706): the second byte is read and discarded; nothing else. -/
def execStop (_n : Byte) (s : State) : Result := s.done 4

/-- DI (R710). -/
def execDi (s : State) : Result := ({ s with ime := false, imePending := false } : State).done 4

/-- EI (R711). -/
def execEi (s : State) : Result := ({ s with imePending := true } : State).done 4

/-- HALT (R712). -/
def execHalt (s : State) : Result :=
  if !s.ime && s.pending == 0 then ({ s with haltBug := true } : State).done 4
  else ({ s with halted := true } : State).done 4

/-- The illegal opcode 0xD3 (R704). -/
def execIllegalD3 (s : State) : Result := illegal 0xD3 s

/-- The illegal opcode 0xDB (R704). -/
def execIllegalDB (s : State) : Result := illegal 0xDB s

/-- The illegal opcode 0xDD (R704). -/
def execIllegalDD (s : State) : Result := illegal 0xDD s

/-- The illegal opcode 0xE3 (R704). -/
def execIllegalE3 (s : State) : Result := illegal 0xE3 s

/-- The illegal opcode 0xE4 (R704). -/
def execIllegalE4 (s : State) : Result := illegal 0xE4 s

/-- The illegal opcode 0xEB (R704). -/
def execIllegalEB (s : State) : Result := illegal 0xEB s

/-- The illegal opcode 0xEC (R704). -/
def execIllegalEC (s : State) : Result := illegal 0xEC s

/-- The illegal opcode 0xED (R704). -/
def execIllegalED (s : State) : Result := illegal 0xED s

/-- The illegal opcode 0xF4 (R704). -/
def execIllegalF4 (s : State) : Result := illegal 0xF4 s

/-- The illegal opcode 0xFC (R704). -/
def execIllegalFC (s : State) : Result := illegal 0xFC s

/-- The illegal opcode 0xFD (R704). -/
def execIllegalFD (s : State) : Result := illegal 0xFD s

end Sys2Proof.Machine
end

