-- ==== Sys2Proof/Machine/Cpu.lean ====
section
/-! DEFINITION. The CPU step (spec/46_system.md R700 to R703): the fetch of an instruction's bytes and its execution, and the placing of an
instruction where the next step fetches it. -/

namespace Sys2Proof.Machine

/-- The state after the opcode fetch (R700, R702): PC advances unless the halt bug holds it, and a pending EI takes effect. The
address of the opcode is kept for R704. -/
def State.afterOpcodeFetch (s : State) : State :=
  let s1 := { (if s.haltBug then { s with haltBug := false } else s.setPc (s.regs.pc + 1)) with opAddr := s.regs.pc }
  if s1.imePending then { s1 with ime := true, imePending := false } else s1

/-- Fetch one instruction and go on with it (R700, R703, R713): the opcode, then the bytes its format has, each by a gated
read at PC. -/
def State.fetchThen (s : State) (k : Instr → State → Result) : Result :=
  s.readThen s.regs.pc fun op =>
    let s1 := s.afterOpcodeFetch
    match formatOf op with
    | .op i => k i s1
    | .op8 f => s1.imm8Then fun n s2 => k (f n) s2
    | .op16 f => s1.imm16Then fun w s2 => k (f w) s2
    | .cb => s1.imm8Then fun sub s2 => k (cbInstr sub) s2

/-- step() of R700, with R701's halted step. The cycles it reports are the `cycles` of its next state. -/
def State.cpuStep (s : State) : Result := if s.halted then s.done 4 else s.fetchThen exec

/-! ### Placing an instruction (notes/assumptions/13.md) -/

/-- A fetch at this address reads a memory cell. -/
def State.fetchable (s : State) (a : Word) : Bool := !s.blocked a && (s.cellOf a.toNat).isSome

/-- Store bytes in the cells behind consecutive addresses. -/
def State.placeAt (s : State) (a : Word) : List Byte → State
  | [] => s
  | v :: vs => State.placeAt (s.writeCell a.toNat v) (a + 1) vs

/-- The state whose next step fetches and runs the instruction these three bytes begin with. It runs, is not halted and does not
have the halt bug. The bytes lie at PC where the CPU can fetch three cells there; else PC goes to 0xC000 and no transfer is active. -/
def State.withCode (s : State) (bytes : List Byte) : State :=
  let s1 := { s with halted := false, haltBug := false, fault := none }
  if s1.fetchable s1.regs.pc && s1.fetchable (s1.regs.pc + 1) && s1.fetchable (s1.regs.pc + 2) then
    s1.placeAt s1.regs.pc bytes
  else ({ s1 with dma := { s1.dma with active := false } }.setPc 0xC000).placeAt 0xC000 bytes

end Sys2Proof.Machine
end

