-- ==== Sys2Proof/Machine/Dma.lean ====
section
/-! DEFINITION. The progress of the OAM DMA (spec/60_exceptions.md R861, R862). Its start is Dma.begin in Sys2Proof/Machine/Bus.lean. -/

namespace Sys2Proof.Machine

/-- The address of the next source byte: DMA_SRC + DMA_INDEX (R861). -/
def Dma.nextAddr (d : Dma) : Word := d.src + BitVec.ofNat 16 d.index

/-- One turn of the loop of DMA.update (R861): take the byte's cycles, read the source through the ungated bus, write OAM past the
PPU-mode gate (R862). Under UNMAPPED_POLICY = Fault an unmapped source byte raises. -/
def State.dmaByteThen (s : State) (k : State → Result) : Result :=
  let s1 := { s with dma := { s.dma with acc := s.dma.acc - Config.dmaCyclesPerByte } }
  match s1.busRead s1.dma.nextAddr with
  | some v =>
    k { s1 with mem := s1.mem.write (0xFE00 + s1.dma.index) v, dma := { s1.dma with index := s1.dma.index + 1 } }
  | none => s1.raise (.busRoutingError s1.dma.nextAddr)

/-- `n` turns of the loop, then the end test: at 160 bytes the transfer is over. -/
def State.dmaBytes : Nat → State → Result
  | 0, s => .next (if s.dma.index = Config.oamBytes then { s with dma := { s.dma with active := false, acc := 0 } } else s)
  | n + 1, s => s.dmaByteThen fun s1 => State.dmaBytes n s1

/-- DMA.update(c) (R861): the loop runs while DMA_ACC holds a byte's cycles and DMA_INDEX is below 160. -/
def State.dmaUpdate (s : State) (c : Nat) : Result :=
  if s.dma.active then
    let acc := s.dma.acc + c
    State.dmaBytes (min (acc / Config.dmaCyclesPerByte) (Config.oamBytes - s.dma.index)) { s with dma := { s.dma with acc := acc } }
  else .next s

end Sys2Proof.Machine
end

