-- ==== Sys2Proof/Machine/Orchestrator.lean ====
section
/-! DEFINITION. The orchestrator (spec/60_exceptions.md R880, R881): one iteration of its loop. -/

namespace Sys2Proof.Machine

/-- `PPU.update(c); Timer.update(c); DMA.update(c)`, in this order (R880). -/
def State.unitsUpdate (s : State) (c : Nat) : Result := ((s.ppuUpdate c).timerUpdate c).dmaUpdate c

/-- The end of an iteration: FRAME_ACC counts its cycles and gives up a frame's worth when it has them (R880, R881, notes/assumptions/11.md);
the iteration is counted, and its cycles are kept. -/
def State.closeIteration (s : State) (n : Nat) : State :=
  let acc := s.frameAcc + n
  { s with frameAcc := if Config.cyclesPerFrame ≤ acc then acc - Config.cyclesPerFrame else acc
           iter := s.iter + 1, cycles := n }

/-- What an iteration does after the CPU step (R880): the units by the step's cycles, the interrupt handling, and the units by the
cycles that took. -/
def State.afterStep (s1 : State) : Result :=
  andThen (s1.unitsUpdate s1.cycles) fun s2 =>
  andThen s2.handleInterrupts fun s3 =>
  if 0 < s3.cycles then
    andThen (s3.unitsUpdate s3.cycles) fun s4 => .next (s4.closeIteration (s1.cycles + s3.cycles))
  else .next (s3.closeIteration s1.cycles)

/-- One iteration (R880). -/
def State.iteration (s : State) : Result := andThen s.cpuStep State.afterStep

/-- A faulted machine takes no further step (R110, R800, R804): the outcome is its fault again. Otherwise the snapshots due are
delivered (R872) and one iteration runs. -/
def State.advance (s : State) : Result :=
  match s.fault with
  | some r => .fault (Fault.of r s)
  | none => s.applyInput.iteration

end Sys2Proof.Machine
end

