-- ==== Sys2Proof/Safety.lean ====
section
/-! DEFINITION. The terms the statements are made in: the operand codes of the encodings (spec/30_encoding.md R302), the values the rules
compute, written apart from the model's own functions, the frames of a write and of a push, where an instruction
stores, what the CPU reads at an address, the invariant of
the machine, and a safe step. Nothing in Machine uses them. -/

namespace Sys2Proof

/-! ### Operand codes (R302) -/

def Reg8.code : Reg8 → BitVec 3
  | .b => 0b000
  | .c => 0b001
  | .d => 0b010
  | .e => 0b011
  | .h => 0b100
  | .l => 0b101
  | .a => 0b111

def Reg16.code : Reg16 → BitVec 2
  | .bc => 0b00
  | .de => 0b01
  | .hl => 0b10
  | .sp => 0b11

def StackPair.code : StackPair → BitVec 2
  | .bc => 0b00
  | .de => 0b01
  | .hl => 0b10

def Cond.code : Cond → BitVec 2
  | .nz => 0b00
  | .z => 0b01
  | .nc => 0b10
  | .c => 0b11

def AluOp.code : AluOp → BitVec 3
  | .add => 0b000
  | .adc => 0b001
  | .sub => 0b010
  | .sbc => 0b011
  | .and => 0b100
  | .xor => 0b101
  | .or => 0b110
  | .cp => 0b111

def RotOp.code : RotOp → BitVec 3
  | .rlc => 0b000
  | .rrc => 0b001
  | .rl => 0b010
  | .rr => 0b011
  | .sla => 0b100
  | .sra => 0b101
  | .swap => 0b110
  | .srl => 0b111

namespace Machine

/-! ### What the rules compute -/

/-- The byte of F with the four flags in bits 7 to 4 and zeros below (R104, R500). -/
def fOf (z n h c : Bool) : Byte := BitVec.ofNat 8 (128 * z.toNat + 64 * n.toNat + 32 * h.toNat + 16 * c.toNat)

/-- The carry flag as a number of a byte. -/
def carryByte (c : Bool) : Byte := if c then 1 else 0

/-- What A holds after an arithmetic or logic operation on A and `v` (R502 to R525). CP leaves A. -/
def aluA (op : AluOp) (a v : Byte) (c : Bool) : Byte :=
  match op with
  | .add => a + v
  | .adc => a + v + carryByte c
  | .sub => a - v
  | .sbc => a - v - carryByte c
  | .and => a &&& v
  | .xor => a ^^^ v
  | .or => a ||| v
  | .cp => a

/-- What F holds after it. An addition carries out of bit 3 into H and out of bit 7 into C; a subtraction is the addition of the
complement, and borrows where that does not carry. -/
def aluF (op : AluOp) (a v : Byte) (c : Bool) : Byte :=
  match op with
  | .add => fOf (decide (a + v = 0)) false (BitVec.carry 4 a v false) (BitVec.carry 8 a v false)
  | .adc => fOf (decide (a + v + carryByte c = 0)) false (BitVec.carry 4 a v c) (BitVec.carry 8 a v c)
  | .sub | .cp => fOf (decide (a = v)) true (!BitVec.carry 4 a (~~~v) true) (!BitVec.carry 8 a (~~~v) true)
  | .sbc => fOf (decide (a - v - carryByte c = 0)) true (!BitVec.carry 4 a (~~~v) !c) (!BitVec.carry 8 a (~~~v) !c)
  | .and => fOf (decide (a &&& v = 0)) false true false
  | .xor => fOf (decide (a = v)) false false false
  | .or => fOf (decide (a = 0 ∧ v = 0)) false false false

/-- What a rotate or shift makes of a byte, bit by bit from bit 7 (R600 to R620). -/
def rotByte (op : RotOp) (v : Byte) (c : Bool) : Byte :=
  match op with
  | .rlc => v.rotateLeft 1
  | .rrc => v.rotateRight 1
  | .rl => v.extractLsb' 0 7 ++ BitVec.ofBool c
  | .rr => BitVec.ofBool c ++ v.extractLsb' 1 7
  | .sla => v.extractLsb' 0 7 ++ 0#1
  | .sra => v.sshiftRight 1
  | .swap => v.extractLsb' 0 4 ++ v.extractLsb' 4 4
  | .srl => 0#1 ++ v.extractLsb' 1 7

/-- The bit a rotate or shift puts in C: bit 7 to the left, bit 0 to the right, 0 for SWAP. -/
def rotCarry (op : RotOp) (v : Byte) : Bool :=
  match op with
  | .rlc | .rl | .sla => v.msb
  | .rrc | .rr | .sra | .srl => v.toNat % 2 == 1
  | .swap => false

/-- The two-digit binary coded decimal byte of a number below 100. -/
def bcd (n : Nat) : Byte := BitVec.ofNat 8 (n / 10 % 10 * 16 + n % 10)

/-- cond(cc) as a test of the byte in F (R104, R650). -/
def condOf (cc : Cond) (f : Byte) : Bool :=
  match cc with
  | .nz => f.toNat / 128 % 2 == 0
  | .z => f.toNat / 128 % 2 == 1
  | .nc => f.toNat / 16 % 2 == 0
  | .c => f.toNat / 16 % 2 == 1

/-- F written whole from four flags; nothing else changes. -/
def State.withF (s : State) (z n h c : Bool) : State := { s with regs := { s.regs with f := fOf z n h c } }

/-! ### The sprite pass as R851 writes it: a loop over OAM and, in it, over the eight columns of an entry -/

/-- What the loop carries along a line: count, drawn and the row of FB. -/
structure Line where
  count : Nat
  drawn : Nat → Bool
  row : Nat → BitVec 2

/-- One turn of the inner loop: column `k` of an entry at `sx`, with its flags `f`, its tile row `lo`, `hi` and the background's
palette indexes `raw`. -/
def State.spriteColumn (s : State) (raw : Nat → BitVec 2) (sx : Int) (f lo hi : Byte) (l : Line) (k : Nat) : Line :=
  let x := sx + k
  if x < 0 ∨ 159 < x ∨ l.drawn x.toNat = true then l
  else
    let b := if f.getLsbD 5 then k else 7 - k
    let idx := (hi.getLsbD b).toNat * 2 + (lo.getLsbD b).toNat
    if idx = 0 then l
    else
      let l1 := { l with drawn := fun j => if j = x.toNat then true else l.drawn j }
      if f.getLsbD 7 ∧ raw x.toNat ≠ 0 then l1
      else
        let pal := if f.getLsbD 4 then s.ppu.obp1 else s.ppu.obp0
        { l1 with row := fun j => if j = x.toNat then BitVec.ofNat 2 (pal.toNat / 4 ^ idx) else l.row j }

/-- One turn of the outer loop: entry `n` of OAM. -/
def State.spriteEntry (s : State) (ly : Nat) (raw : Nat → BitVec 2) (l : Line) (n : Nat) : Line :=
  if l.count = 10 then l
  else
    let h : Nat := if s.ppu.lcdc.getLsbD 2 then 16 else 8
    let sy : Int := (s.mem.read (0xFE00 + 4 * n)).toNat - 16
    let sx : Int := (s.mem.read (0xFE00 + 4 * n + 1)).toNat - 8
    let t := s.mem.read (0xFE00 + 4 * n + 2)
    let f := s.mem.read (0xFE00 + 4 * n + 3)
    if ¬(sy ≤ ly ∧ ly < sy + h) then l
    else
      let row := if f.getLsbD 6 then h - 1 - (ly - sy).toNat else (ly - sy).toNat
      let t := if h = 16 then t.toNat / 2 * 2 else t.toNat
      let lo := s.mem.read (0x8000 + t * 16 + row * 2)
      let hi := s.mem.read (0x8000 + t * 16 + row * 2 + 1)
      (List.range 8).foldl (s.spriteColumn raw sx f lo hi) { l with count := l.count + 1 }

/-- The row of FB after the loop, from the row and the palette indexes the background pass left. -/
def State.spriteRow (s : State) (ly : Nat) (raw bg : Nat → BitVec 2) : Nat → BitVec 2 :=
  ((List.range 40).foldl (s.spriteEntry ly raw) { count := 0, drawn := fun _ => false, row := bg }).row

/-! ### Accesses -/

/-- The bus answers a CPU access at this address: it does not raise BusRoutingError (R203, R230). -/
def State.Answers (s : State) (a : Word) : Prop :=
  s.policy = .openBus ∨ s.blocked a = true ∨ (deviceAt a.toNat).isSome = true

/-- The raise of BusRoutingError at an address, with everything before it done (R800, R801). -/
def State.busFault (s : State) (a : Word) : Result :=
  .fault (.busRoutingError a { s with fault := some (.busRoutingError a) })

/-- The CPU reads these bytes at consecutive addresses from `a` on. -/
def State.ReadsAt (s : State) (a : Word) : List Byte → Prop
  | [] => True
  | v :: vs => s.memRead a = some v ∧ s.ReadsAt (a + 1) vs

/-- An address behind which a write stores a byte of RAM: VRAM, cartridge RAM, WRAM, its echo, OAM or HRAM. -/
def ramAddr (a : Word) : Prop := (0x8000 ≤ a.toNat ∧ a.toNat < 0xFEA0) ∨ (0xFF80 ≤ a.toNat ∧ a.toNat < 0xFFFF)

/-- `i` stores a byte at address `a` when it runs on `s`: the addresses the storing forms name, by the rules of spec/40_load8.md to
spec/45_control.md. No other form stores. -/
def StoresTo (i : Instr) (s : State) (a : Word) : Prop :=
  (a = s.hl ∧ (i ∈ [Instr.ldAtHlIncA, .ldAtHlDecA, .incAtHl, .decAtHl] ∨ (∃ r, i = .ldAtHlReg r) ∨ (∃ n, i = .ldAtHlN8 n) ∨
    (∃ op, i = .rotAtHl op) ∨ (∃ b, i = .resAtHl b ∨ i = .setAtHl b) ∨
    ∃ sub : Byte, i = .prefixCb sub ∧ sub.extractLsb' 0 3 = 6 ∧ sub.extractLsb' 6 2 ≠ 1)) ∨
  (a = s.regs.b ++ s.regs.c ∧ i = .ldAtBcA) ∨ (a = s.regs.d ++ s.regs.e ∧ i = .ldAtDeA) ∨
  (a = BitVec.ofNat 16 (0xFF00 + s.regs.c.toNat) ∧ i = .ldAtCA) ∨
  (∃ n : Byte, a = BitVec.ofNat 16 (0xFF00 + n.toNat) ∧ i = .ldhAtA8A n) ∨ i = .ldAtA16A a ∨
  i = .ldAtA16Sp a ∨ i = .ldAtA16Sp (a - 1) ∨
  ((a = s.regs.sp - 1 ∨ a = s.regs.sp - 2) ∧ (i = .pushAf ∨ (∃ p, i = .pushPair p) ∨ (∃ y, i = .rst y) ∨
    ∃ w, i = .callA16 w ∨ ∃ cc, i = .callCond cc w ∧ condOf cc s.regs.f = true))

/-- The frame of one CPU write at address `a`, from state `s` to state `t`: all it may change. -/
structure WriteFrame (s t : State) (a : Word) : Prop where
  /-- No register, and nothing of the CPU's control state. -/
  regs : t.regs = s.regs
  control : t.ime = s.ime ∧ t.imePending = s.imePending ∧ t.halted = s.halted ∧ t.haltBug = s.haltBug ∧ t.fault = s.fault
  /-- Nothing of the orchestrator and the outside. -/
  outside : t.frameAcc = s.frameAcc ∧ t.policy = s.policy ∧ t.input = s.input ∧ t.iter = s.iter ∧
    t.presented = s.presented ∧ t.opAddr = s.opAddr ∧ t.cycles = s.cycles ∧ t.joypad.buttons = s.joypad.buttons
  /-- No byte of memory but the one behind the address, and never a byte of ROM. -/
  cells : ∀ k, s.cellOf a.toNat ≠ some k ∨ romBase ≤ k → t.mem.read k = s.mem.read k
  /-- No register of a device that does not hold the address. -/
  cart : (0x8000 ≤ a.toNat → t.cart = s.cart) ∧ t.cart.kind = s.cart.kind ∧ t.cart.romSize = s.cart.romSize ∧
    t.cart.ramSize = s.cart.ramSize
  timer : a.toNat < 0xFF04 ∨ 0xFF07 < a.toNat → t.timer = s.timer
  ppu : a.toNat < 0xFF40 ∨ 0xFF4B < a.toNat ∨ a = 0xFF46 → t.ppu = s.ppu
  dma : a ≠ 0xFF46 → t.dma = s.dma
  joypad : a ≠ 0xFF00 → t.joypad = s.joypad
  serial : a ≠ 0xFF01 → a ≠ 0xFF02 → t.serial = s.serial
  ie : a ≠ 0xFFFF → t.ie = s.ie
  /-- IF changes by a write of IF itself, and by the STAT request a write of STAT or LYC may raise. -/
  iflag : a ≠ 0xFF0F → t.iflag = s.iflag ∨ ((a = 0xFF41 ∨ a = 0xFF45) ∧ t.iflag = s.iflag ||| 0x02)
  /-- A write of RAM leaves what every other address reads, but for the other addresses of the same byte. -/
  reads : ramAddr a → ∀ x : Word, s.cellOf x.toNat = none ∨ s.cellOf x.toNat ≠ s.cellOf a.toNat → t.busRead x = s.busRead x

/-- push16(v) takes `s` to `t` (R15): SP-1 gets the high byte, then SP-2 the low byte. -/
def State.Pushes (s : State) (v : Word) (t : State) : Prop :=
  ∃ t1, (s.setSp (s.regs.sp - 1)).memWrite (s.regs.sp - 1) (v.extractLsb' 8 8) = some t1 ∧
    (t1.setSp (s.regs.sp - 2)).memWrite (s.regs.sp - 2) (v.extractLsb' 0 8) = some t

/-- The frame of a push from `s` to `t`: of the registers only SP changes, and of memory only the bytes behind SP-1 and SP-2. -/
structure PushFrame (s t : State) : Prop where
  regs : t.regs = { s.regs with sp := s.regs.sp - 2 }
  control : t.ime = s.ime ∧ t.imePending = s.imePending ∧ t.halted = s.halted ∧ t.haltBug = s.haltBug ∧ t.fault = s.fault
  outside : t.frameAcc = s.frameAcc ∧ t.policy = s.policy ∧ t.input = s.input ∧ t.iter = s.iter ∧
    t.presented = s.presented ∧ t.opAddr = s.opAddr ∧ t.cycles = s.cycles
  cells : ∀ k, s.cellOf (s.regs.sp - 1).toNat ≠ some k → s.cellOf (s.regs.sp - 2).toNat ≠ some k →
    t.mem.read k = s.mem.read k
  rom : ∀ k, romBase ≤ k → t.mem.read k = s.mem.read k
  /-- A device changes only where one of the two addresses is its own. -/
  devices : ∀ lo hi : Nat, (∀ a ∈ [s.regs.sp - 1, s.regs.sp - 2], a.toNat < lo ∨ hi < a.toNat) →
    (lo = 0x0000 ∧ hi = 0x7FFF → t.cart = s.cart) ∧ (lo = 0xFF00 ∧ hi = 0xFF00 → t.joypad = s.joypad) ∧
    (lo = 0xFF01 ∧ hi = 0xFF02 → t.serial = s.serial) ∧ (lo = 0xFF04 ∧ hi = 0xFF07 → t.timer = s.timer) ∧
    (lo = 0xFF40 ∧ hi = 0xFF4B → t.ppu = s.ppu ∧ t.dma = s.dma) ∧ (lo = 0xFFFF ∧ hi = 0xFFFF → t.ie = s.ie) ∧
    (lo = 0xFF0F ∧ hi = 0xFF45 → t.iflag = s.iflag)
  /-- With both bytes in RAM, nothing else changes at all, and every address that is not one of the two bytes reads as before. -/
  ram : ramAddr (s.regs.sp - 1) → ramAddr (s.regs.sp - 2) →
    t = { s with regs := { s.regs with sp := s.regs.sp - 2 }, mem := t.mem } ∧
      ∀ x : Word, s.cellOf x.toNat = none ∨ (s.cellOf x.toNat ≠ s.cellOf (s.regs.sp - 1).toNat ∧
        s.cellOf x.toNat ≠ s.cellOf (s.regs.sp - 2).toNat) → t.busRead x = s.busRead x

/-! ### The invariant -/

/-- The cells of the arrays R130 and R132 name, for a cartridge. -/
def Cart.physical (c : Cart) (k : Nat) : Prop :=
  (0x8000 ≤ k ∧ k < 0xA000) ∨ (0xC000 ≤ k ∧ k < 0xE000) ∨ (0xFE00 ≤ k ∧ k < 0xFEA0) ∨ (0xFF80 ≤ k ∧ k < 0xFFFF) ∨
    (cramBase ≤ k ∧ k < cramBase + c.ramSize) ∨ romBase ≤ k

/-- What every state between two iterations satisfies. -/
structure State.Inv (s : State) : Prop where
  /-- The machine runs. -/
  running : s.fault = none
  /-- Memory is in its canonical form, and lists bytes of the block's arrays only. -/
  mem : s.mem.wf
  cells : ∀ c ∈ s.mem, s.cart.physical c.1
  /-- F bits 3:0 read 0 (R102). -/
  flags : s.regs.f &&& 0x0F = 0
  /-- BANK1 is never 0 (R131). -/
  bank1 : s.cart.bank1 ≠ 0
  /-- The hidden accumulators stay in their ranges (R116, R881). -/
  divAcc : s.timer.divAcc < 256
  timaAcc : s.timer.timaAcc < 256
  frameAcc : s.frameAcc < Config.cyclesPerFrame
  /-- DOTS is below the length of the mode, and LY is a line the mode can be on (R121, R841). -/
  dots : s.ppu.dots < s.ppu.mode.length
  line : if s.ppu.mode = .vblank then 144 ≤ s.ppu.ly.toNat ∧ s.ppu.ly.toNat < 154 else s.ppu.ly.toNat < 144
  /-- LCD_WAS_OFF says whether the LCD is off; while it is, the PPU stands at line 0 in mode 0 (R849). -/
  lcd : s.ppu.lcdWasOff = !s.ppu.lcdOn
  frozen : s.ppu.lcdWasOff = true → s.ppu.mode = .hblank ∧ s.ppu.dots = 0 ∧ s.ppu.ly = 0
  /-- A transfer is active exactly while bytes are left, and no cycle of it is kept at one cycle a byte (R861). -/
  dma : s.dma.index ≤ 160 ∧ (s.dma.active = true ↔ s.dma.index < 160) ∧ s.dma.acc = 0

/-- A safe step: the machine goes on. -/
def State.Safe (s : State) : Prop := ∃ t, step s = .next t

/-- The states a run goes through from `s` (R880, R883). -/
inductive Reaches : State → State → Prop
  | here (s : State) : Reaches s s
  | step {s t u : State} : Reaches s t → Machine.step t = .next u → Reaches s u

end Machine

end Sys2Proof
end

