-- ==== Sys2Proof/Certificates/Slice0/Obligations.lean ====
section
/-! DEFINITION. The statements for the provers, in the terms of Sys2Proof/Safety.lean. OBLIGATIONS.json lists them with the rules of spec/ they
formalise. A statement about `exec` runs on the state after the fetch: PC is past the instruction (spec/46_system.md R703); a
statement about an instruction also says how it is encoded. -/

open Sys2Proof Sys2Proof.Machine

/-! ### Encoding -/

/-- Words written out from the spec's encodings decode to the instructions they stand for. -/
def Obligations.DecodesSpecWords : Prop :=
  decode [0b00111110, 0x05] = .ok (.ldAN8 0x05, []) ∧
  decode [0b00111100] = .ok (.incA, []) ∧
  decode [0b11000011, 0x00, 0x01] = .ok (.jpA16 0x0100, []) ∧
  decode [0b00001000, 0x00, 0xC0] = .ok (.ldAtA16Sp 0xC000, []) ∧
  decode [0b00110001, 0xFE, 0xFF] = .ok (.ldSpN16 0xFFFE, []) ∧
  decode [0b11110101] = .ok (.pushAf, []) ∧
  decode [0b10011110] = .ok (.sbcAAtHl, []) ∧
  decode [0b11101000, 0xFE] = .ok (.addSpE8 0xFE, []) ∧
  decode [0b00100000, 0xFC] = .ok (.jrNzE8 0xFC, []) ∧
  decode [0b11101111] = .ok (.rst28, []) ∧
  decode [0b01110110] = .ok (.halt, []) ∧
  decode [0b00010000, 0x00] = .ok (.stop 0x00, []) ∧
  decode [0b11010011] = .ok (.illegalD3, []) ∧
  decode [0b11001011, 0b00110111] = .ok (.swapA, []) ∧
  decode [0b11001011, 0b01111110] = .ok (.bit7AtHl, [])

/-- The regular blocks of the two opcode maps, by the fields of the opcode (R311, R312, with the operand codes of R302). -/
def Obligations.DecodesByField : Prop :=
  ∀ (bs : List Byte) (r r2 : Reg8) (rr : Reg16) (p : StackPair) (cc : Cond) (op : AluOp) (ro : RotOp) (y : Fin 8) (n lo hi : Byte),
    let b : BitVec 3 := BitVec.ofNat 3 y.val
    let w : Word := BitVec.ofNat 16 (lo.toNat + 256 * hi.toNat)
    decode ((0b01#2 ++ r.code ++ r2.code) :: bs) = .ok (.ldReg r r2, bs) ∧
    decode ((0b01#2 ++ r.code ++ 0b110#3) :: bs) = .ok (.ldRegAtHl r, bs) ∧
    decode ((0b01#2 ++ 0b110#3 ++ r.code) :: bs) = .ok (.ldAtHlReg r, bs) ∧
    decode ((0b01#2 ++ 0b110#3 ++ 0b110#3) :: bs) = .ok (.halt, bs) ∧
    decode ((0b10#2 ++ op.code ++ r.code) :: bs) = .ok (.aluReg op r, bs) ∧
    decode ((0b10#2 ++ op.code ++ 0b110#3) :: bs) = .ok (.aluAtHl op, bs) ∧
    decode ((0b11#2 ++ op.code ++ 0b110#3) :: n :: bs) = .ok (.aluN8 op n, bs) ∧
    decode ((0b11#2 ++ b ++ 0b111#3) :: bs) = .ok (.rst y, bs) ∧
    decode ((0b00#2 ++ r.code ++ 0b100#3) :: bs) = .ok (.incReg r, bs) ∧
    decode ((0b00#2 ++ 0b110#3 ++ 0b100#3) :: bs) = .ok (.incAtHl, bs) ∧
    decode ((0b00#2 ++ r.code ++ 0b101#3) :: bs) = .ok (.decReg r, bs) ∧
    decode ((0b00#2 ++ 0b110#3 ++ 0b101#3) :: bs) = .ok (.decAtHl, bs) ∧
    decode ((0b00#2 ++ r.code ++ 0b110#3) :: n :: bs) = .ok (.ldRegN8 r n, bs) ∧
    decode ((0b00#2 ++ 0b110#3 ++ 0b110#3) :: n :: bs) = .ok (.ldAtHlN8 n, bs) ∧
    decode ((0b00#2 ++ rr.code ++ 0b0001#4) :: lo :: hi :: bs) = .ok (.ldR16N16 rr w, bs) ∧
    decode ((0b00#2 ++ rr.code ++ 0b1001#4) :: bs) = .ok (.addHlR16 rr, bs) ∧
    decode ((0b00#2 ++ rr.code ++ 0b0011#4) :: bs) = .ok (.incR16 rr, bs) ∧
    decode ((0b00#2 ++ rr.code ++ 0b1011#4) :: bs) = .ok (.decR16 rr, bs) ∧
    decode (0b00000010 :: bs) = .ok (.ldAtBcA, bs) ∧ decode (0b00010010 :: bs) = .ok (.ldAtDeA, bs) ∧
    decode (0b00100010 :: bs) = .ok (.ldAtHlIncA, bs) ∧ decode (0b00110010 :: bs) = .ok (.ldAtHlDecA, bs) ∧
    decode (0b00001010 :: bs) = .ok (.ldAAtBc, bs) ∧ decode (0b00011010 :: bs) = .ok (.ldAAtDe, bs) ∧
    decode (0b00101010 :: bs) = .ok (.ldAAtHlInc, bs) ∧ decode (0b00111010 :: bs) = .ok (.ldAAtHlDec, bs) ∧
    decode ((0b11#2 ++ p.code ++ 0b0001#4) :: bs) = .ok (.popPair p, bs) ∧ decode (0b11110001 :: bs) = .ok (.popAf, bs) ∧
    decode ((0b11#2 ++ p.code ++ 0b0101#4) :: bs) = .ok (.pushPair p, bs) ∧ decode (0b11110101 :: bs) = .ok (.pushAf, bs) ∧
    decode ((0b110#3 ++ cc.code ++ 0b000#3) :: bs) = .ok (.retCond cc, bs) ∧
    decode ((0b110#3 ++ cc.code ++ 0b010#3) :: lo :: hi :: bs) = .ok (.jpCond cc w, bs) ∧
    decode ((0b110#3 ++ cc.code ++ 0b100#3) :: lo :: hi :: bs) = .ok (.callCond cc w, bs) ∧
    decode ((0b001#3 ++ cc.code ++ 0b000#3) :: n :: bs) = .ok (.jrCond cc n, bs) ∧
    decode (0xCB :: (0b00#2 ++ ro.code ++ r.code) :: bs) = .ok (.rotReg ro r, bs) ∧
    decode (0xCB :: (0b00#2 ++ ro.code ++ 0b110#3) :: bs) = .ok (.rotAtHl ro, bs) ∧
    decode (0xCB :: (0b01#2 ++ b ++ r.code) :: bs) = .ok (.bitReg y r, bs) ∧
    decode (0xCB :: (0b01#2 ++ b ++ 0b110#3) :: bs) = .ok (.bitAtHl y, bs) ∧
    decode (0xCB :: (0b10#2 ++ b ++ r.code) :: bs) = .ok (.resReg y r, bs) ∧
    decode (0xCB :: (0b10#2 ++ b ++ 0b110#3) :: bs) = .ok (.resAtHl y, bs) ∧
    decode (0xCB :: (0b11#2 ++ b ++ r.code) :: bs) = .ok (.setReg y r, bs) ∧
    decode (0xCB :: (0b11#2 ++ b ++ 0b110#3) :: bs) = .ok (.setAtHl y, bs)

/-- Decoding the bytes of any instruction gives the instruction back, and leaves what follows them. -/
def Obligations.DecodeOfEncode : Prop :=
  ∀ (i : Instr) (bs : List Byte), i.wellFormed = true → decode (encode i ++ bs) = .ok (i, bs)

/-- Every list of bytes that decodes is the encoding of what it decodes to, and of nothing else: no bit is ignored, and the decoder
answers well-formed instructions only. -/
def Obligations.EncodeOfDecode : Prop :=
  ∀ (bs rest : List Byte) (i : Instr), decode bs = .ok (i, rest) → i.wellFormed = true ∧ bs = encode i ++ rest

/-! ### The CPU step and the iteration -/

/-- A step of a running machine delivers the snapshots due (R872) and runs one iteration: the instruction the bytes at PC decode to, on the
state after the fetch, then what an iteration does after the CPU step. The snapshots are delivered from the front of INPUT, each once, while
their number is at most that of the iteration; the rest stay for later ones (how iterations are numbered: notes/assumptions/3.md). -/
def Obligations.StepRunsDecoded : Prop :=
  (∀ s : State, s.input = [] → s.applyInput = s) ∧
  (∀ (s : State) (n : Nat) (b : Buttons) (rest : List (Nat × Buttons)), s.input = (n, b) :: rest →
    (n ≤ s.iter → s.applyInput = ({ s with input := rest }.deliver b).applyInput) ∧
    (s.iter < n → s.applyInput = s)) ∧
  (∀ s : State, s.fault = none → step s = s.applyInput.iteration) ∧
  ∀ (s : State) (bs : List Byte) (i : Instr), s.fault = none →
    let u := s.applyInput
    u.halted = false → u.haltBug = false → u.ReadsAt u.regs.pc bs → decode bs = .ok (i, []) →
    step s = andThen (exec i { u with regs := { u.regs with pc := u.regs.pc + BitVec.ofNat 16 bs.length }
                                      ime := u.ime || u.imePending, imePending := false, opAddr := u.regs.pc }) State.afterStep

/-- While HALTED a step fetches nothing, changes no state and reports 4 cycles (R701; `cycles` is the model's record of the report). Under the
halt bug (R702) the opcode is read at PC, PC is not incremented, HALT_BUG is cleared, and the operand bytes are read from the address of the
opcode on. -/
def Obligations.HaltedStepAndHaltBugFetch : Prop :=
  (∀ s : State, s.halted = true → s.cpuStep = .next { s with cycles := 4 }) ∧
  ∀ (s : State) (op : Byte) (ops : List Byte) (i : Instr), s.halted = false → s.haltBug = true →
    s.memRead s.regs.pc = some op → s.ReadsAt s.regs.pc ops → decode (op :: ops) = .ok (i, []) →
    s.cpuStep = exec i { s with regs := { s.regs with pc := s.regs.pc + BitVec.ofNat 16 ops.length }, haltBug := false
                                ime := s.ime || s.imePending, imePending := false, opAddr := s.regs.pc }

/-- One iteration (R880, R881): the CPU step, the three units by its cycles, the interrupt handling, and where that took cycles the
three units by these; FRAME_ACC counts both. A raise in one of the four ends the iteration with that fault and the state it carries, and nothing
after it happens (R800, R801). -/
def Obligations.IterationOrder : Prop :=
  (∀ (s : State) (f : Fault), s.cpuStep = .fault f → s.iteration = .fault f) ∧
  (∀ (s s1 : State) (f : Fault), s.cpuStep = .next s1 →
    (State.timerUpdate (s1.ppuUpdate s1.cycles) s1.cycles).dmaUpdate s1.cycles = .fault f → s.iteration = .fault f) ∧
  (∀ (s s1 s2 : State) (f : Fault), s.cpuStep = .next s1 →
    (State.timerUpdate (s1.ppuUpdate s1.cycles) s1.cycles).dmaUpdate s1.cycles = .next s2 →
    s2.handleInterrupts = .fault f → s.iteration = .fault f) ∧
  (∀ (s s1 s2 s3 : State) (f : Fault), s.cpuStep = .next s1 →
    (State.timerUpdate (s1.ppuUpdate s1.cycles) s1.cycles).dmaUpdate s1.cycles = .next s2 →
    s2.handleInterrupts = .next s3 → 0 < s3.cycles →
    (State.timerUpdate (s3.ppuUpdate s3.cycles) s3.cycles).dmaUpdate s3.cycles = .fault f → s.iteration = .fault f) ∧
  ∀ s s1 s2 s3 : State, s.cpuStep = .next s1 →
    (State.timerUpdate (s1.ppuUpdate s1.cycles) s1.cycles).dmaUpdate s1.cycles = .next s2 →
    s2.handleInterrupts = .next s3 →
    (s3.cycles = 0 → ∃ t, s.iteration = .next t ∧
      t = { s3 with frameAcc := t.frameAcc, iter := s.iter + 1, cycles := s1.cycles } ∧
      (t.frameAcc = s.frameAcc + s1.cycles ∧ t.frameAcc < 70224 ∨ t.frameAcc + 70224 = s.frameAcc + s1.cycles)) ∧
    (∀ s4, 0 < s3.cycles →
      (State.timerUpdate (s3.ppuUpdate s3.cycles) s3.cycles).dmaUpdate s3.cycles = .next s4 → ∃ t, s.iteration = .next t ∧
      t = { s4 with frameAcc := t.frameAcc, iter := s.iter + 1, cycles := s1.cycles + s3.cycles } ∧
      (t.frameAcc = s.frameAcc + s1.cycles + s3.cycles ∧ t.frameAcc < 70224 ∨
        t.frameAcc + 70224 = s.frameAcc + s1.cycles + s3.cycles))

/-- Once a fault is raised it is kept and the machine takes no further step (R110, R800, R804). How the model shows this is its own choice
(notes/assumptions/4.md): the fault a step ends in carries the final state, which holds the record, and a step of a state that holds a record
answers that fault again, with that state. -/
def Obligations.FaultIsFinal : Prop :=
  (∀ (s : State) (f : Fault), step s = .fault f → ∃ r t, f = Fault.of r t ∧ t.fault = some r) ∧
  ∀ (s : State) (r : FaultRecord), s.fault = some r → step s = .fault (Fault.of r s)

/-- Under OpenBus a running machine stops at an illegal opcode and nowhere else: at the byte the fetch reads at PC, with the opcode's
address recorded. It never answers a refusal. -/
def Obligations.OpenBusStopsAtIllegalOpcodesOnly : Prop :=
  ∀ s : State, s.policy = .openBus → s.fault = none →
    (∃ t, step s = .next t) ∨
      ∃ op t, step s = .fault (.illegalOpcode op s.regs.pc t) ∧ s.halted = false ∧ s.applyInput.memRead s.regs.pc = some op ∧
        op ∈ ([0xD3, 0xDB, 0xDD, 0xE3, 0xE4, 0xEB, 0xEC, 0xED, 0xF4, 0xFC, 0xFD] : List Byte)

/-- The eleven illegal opcodes (R320, R704): each is one byte, and raises IllegalOpcode with that byte and the opcode's address;
nothing else changes. In a CPU step the fault is taken after the fetch: PC is past the opcode (or not, under the halt bug), and a pending EI has
taken effect. -/
def Obligations.IllegalOpcodesRaise : Prop :=
  Instr.illegalOpcodes.map Prod.snd = [0xD3, 0xDB, 0xDD, 0xE3, 0xE4, 0xEB, 0xEC, 0xED, 0xF4, 0xFC, 0xFD] ∧
  ∀ x ∈ Instr.illegalOpcodes, encode x.1 = [x.2] ∧ ∀ s : State,
    exec x.1 s = .fault (.illegalOpcode x.2 s.opAddr { s with fault := some (.illegalOpcode x.2 s.opAddr) }) ∧
    (s.halted = false → s.memRead s.regs.pc = some x.2 → s.cpuStep = .fault (.illegalOpcode x.2 s.regs.pc
      { s with regs := { s.regs with pc := if s.haltBug then s.regs.pc else s.regs.pc + 1 }, haltBug := false
               ime := s.ime || s.imePending, imePending := false, opAddr := s.regs.pc
               fault := some (.illegalOpcode x.2 s.regs.pc) }))

/-! ### Registers and loads -/

/-- The register file (R13, R101): a write of a register changes that register, a write of a pair its two registers, the first-named
the high byte; a pair reads as their concatenation. The loads of registers from registers and immediates (R400, R403, R450, R452) change the
destination and nothing else. -/
def Obligations.RegisterFileAndLoads : Prop :=
  ∀ (s : State) (r r2 q : Reg8) (rr : Reg16) (n : Byte) (w : Word),
    ((s.setReg r n).reg q = (if q = r then n else s.reg q) ∧
      s.setReg r n = { s with regs := { (s.setReg r n).regs with f := s.regs.f, sp := s.regs.sp, pc := s.regs.pc } } ∧
      (s.reg16 .bc).toNat = s.regs.b.toNat * 256 + s.regs.c.toNat ∧ (s.reg16 .de).toNat = s.regs.d.toNat * 256 + s.regs.e.toNat ∧
      (s.reg16 .hl).toNat = s.regs.h.toNat * 256 + s.regs.l.toNat ∧ s.reg16 .sp = s.regs.sp ∧ (s.setReg16 rr w).reg16 rr = w ∧
      s.setReg16 .bc w = { s with regs := { s.regs with b := BitVec.ofNat 8 (w.toNat / 256), c := BitVec.ofNat 8 w.toNat } } ∧
      s.setReg16 .de w = { s with regs := { s.regs with d := BitVec.ofNat 8 (w.toNat / 256), e := BitVec.ofNat 8 w.toNat } } ∧
      s.setReg16 .hl w = { s with regs := { s.regs with h := BitVec.ofNat 8 (w.toNat / 256), l := BitVec.ofNat 8 w.toNat } } ∧
      s.setReg16 .sp w = { s with regs := { s.regs with sp := w } }) ∧
    (encode (.ldReg r r2) = [0b01#2 ++ r.code ++ r2.code] ∧
      exec (.ldReg r r2) s = .next { s.setReg r (s.reg r2) with cycles := 4 }) ∧
    (encode (.ldRegN8 r n) = [0b00#2 ++ r.code ++ 0b110#3, n] ∧
      exec (.ldRegN8 r n) s = .next { s.setReg r n with cycles := 8 }) ∧
    (encode (.ldR16N16 rr w) = [0b00#2 ++ rr.code ++ 0b0001#4, w.extractLsb' 0 8, w.extractLsb' 8 8] ∧
      exec (.ldR16N16 rr w) s = .next { s.setReg16 rr w with cycles := 12 }) ∧
    (encode .ldSpHl = [0b11111001] ∧
      exec .ldSpHl s = .next { s with regs := { s.regs with sp := s.regs.h ++ s.regs.l }, cycles := 8 })

/-- The loads from memory (R401, R405, R406, R409, R411, R413, R415, R416): one gated read at the address the form names, the
register, and for (HL+) and (HL-) the new HL; nothing else. Where the bus does not answer, the form raises BusRoutingError. -/
def Obligations.MemoryLoads : Prop :=
  (∀ r : Reg8, encode (.ldRegAtHl r) = [0b01#2 ++ r.code ++ 0b110#3]) ∧
  (encode .ldAAtBc = [0b00001010] ∧ encode .ldAAtDe = [0b00011010] ∧ encode .ldAAtC = [0b11110010] ∧
    encode .ldAAtHlInc = [0b00101010] ∧ encode .ldAAtHlDec = [0b00111010] ∧
    (∀ w : Word, encode (.ldAAtA16 w) = [0b11111010, w.extractLsb' 0 8, w.extractLsb' 8 8]) ∧
    ∀ n : Byte, encode (.ldhAAtA8 n) = [0b11110000, n]) ∧
  ∀ (s : State) (w : Word) (n : Byte),
    (∀ r : Reg8, (s.Answers s.hl → ∃ v, s.memRead s.hl = some v ∧
        exec (.ldRegAtHl r) s = .next { s.setReg r v with cycles := 8 }) ∧
      (¬s.Answers s.hl → exec (.ldRegAtHl r) s = s.busFault s.hl)) ∧
    (∀ x ∈ ([(.ldAAtBc, s.regs.b ++ s.regs.c, 8), (.ldAAtDe, s.regs.d ++ s.regs.e, 8), (.ldAAtA16 w, w, 16),
          (.ldhAAtA8 n, BitVec.ofNat 16 (0xFF00 + n.toNat), 12),
          (.ldAAtC, BitVec.ofNat 16 (0xFF00 + s.regs.c.toNat), 8)] : List (Instr × Word × Nat)),
      (s.Answers x.2.1 → ∃ v, s.memRead x.2.1 = some v ∧
        exec x.1 s = .next { s with regs := { s.regs with a := v }, cycles := x.2.2 }) ∧
      (¬s.Answers x.2.1 → exec x.1 s = s.busFault x.2.1)) ∧
    (∀ x ∈ ([(.ldAAtHlInc, s.hl + 1), (.ldAAtHlDec, s.hl - 1)] : List (Instr × Word)),
      (s.Answers s.hl → ∃ v, s.memRead s.hl = some v ∧
        exec x.1 s = .next { s with regs := { s.regs with a := v, h := x.2.extractLsb' 8 8, l := x.2.extractLsb' 0 8 }
                                    cycles := 8 }) ∧
      (¬s.Answers s.hl → exec x.1 s = s.busFault s.hl))

/-- The stores of a byte (R402, R404, R407, R408, R410, R412, R414, R417, R418): one gated write at the address the form names, with the
frame of such a write, and for (HL+) and (HL-) the new HL. Where the bus does not answer, the form raises BusRoutingError. -/
def Obligations.MemoryStores : Prop :=
  (∀ r : Reg8, encode (.ldAtHlReg r) = [0b01110#5 ++ r.code]) ∧
  (encode .ldAtBcA = [0b00000010] ∧ encode .ldAtDeA = [0b00010010] ∧ encode .ldAtCA = [0b11100010] ∧
    encode .ldAtHlIncA = [0b00100010] ∧ encode .ldAtHlDecA = [0b00110010] ∧
    (∀ w : Word, encode (.ldAtA16A w) = [0b11101010, w.extractLsb' 0 8, w.extractLsb' 8 8]) ∧
    ∀ n : Byte, encode (.ldAtHlN8 n) = [0b00110110, n] ∧ encode (.ldhAtA8A n) = [0b11100000, n]) ∧
  ∀ (s : State) (w : Word) (n : Byte) (r : Reg8),
    (∀ x ∈ ([(.ldAtHlReg r, s.hl, s.reg r, 8), (.ldAtHlN8 n, s.hl, n, 12), (.ldAtBcA, s.regs.b ++ s.regs.c, s.regs.a, 8),
          (.ldAtDeA, s.regs.d ++ s.regs.e, s.regs.a, 8), (.ldAtA16A w, w, s.regs.a, 16),
          (.ldhAtA8A n, BitVec.ofNat 16 (0xFF00 + n.toNat), s.regs.a, 12),
          (.ldAtCA, BitVec.ofNat 16 (0xFF00 + s.regs.c.toNat), s.regs.a, 8)] : List (Instr × Word × Byte × Nat)),
      (s.Answers x.2.1 → ∃ t, s.memWrite x.2.1 x.2.2.1 = some t ∧ WriteFrame s t x.2.1 ∧
        exec x.1 s = .next { t with cycles := x.2.2.2 }) ∧
      (¬s.Answers x.2.1 → exec x.1 s = s.busFault x.2.1)) ∧
    (∀ x ∈ ([(.ldAtHlIncA, s.hl + 1), (.ldAtHlDecA, s.hl - 1)] : List (Instr × Word)),
      (s.Answers s.hl → ∃ t, s.memWrite s.hl s.regs.a = some t ∧ WriteFrame s t s.hl ∧
        exec x.1 s = .next { t with regs := { s.regs with h := x.2.extractLsb' 8 8, l := x.2.extractLsb' 0 8 }, cycles := 8 }) ∧
      (¬s.Answers s.hl → exec x.1 s = s.busFault s.hl))

/-- LD (a16),SP (R451): the low byte of SP at a16, then the high byte at the next address modulo 2^16. A raise at the second write
leaves the first done. -/
def Obligations.StoresSpLowByteFirst : Prop :=
  ∀ (s : State) (a : Word),
    encode (.ldAtA16Sp a) = [0b00001000, a.extractLsb' 0 8, a.extractLsb' 8 8] ∧
    (¬s.Answers a → exec (.ldAtA16Sp a) s = s.busFault a) ∧
    (s.Answers a → ∃ t1, s.memWrite a (s.regs.sp.extractLsb' 0 8) = some t1 ∧ WriteFrame s t1 a ∧
      (¬t1.Answers (a + 1) → exec (.ldAtA16Sp a) s = t1.busFault (a + 1)) ∧
      (s.Answers (a + 1) → ∃ t, t1.memWrite (a + 1) (s.regs.sp.extractLsb' 8 8) = some t ∧ WriteFrame t1 t (a + 1) ∧
        exec (.ldAtA16Sp a) s = .next { t with cycles := 20 }))

/-! ### The stack -/

/-- PUSH (R454, R455): push16 of the pair, of AF with the low nibble of F masked; its frame; 16 cycles. A raise leaves SP already
decremented. -/
def Obligations.PushStoresHighByteFirst : Prop :=
  (∀ p : StackPair, encode (.pushPair p) = [0b11#2 ++ p.code ++ 0b0101#4]) ∧ encode .pushAf = [0b11110101] ∧
  ∀ s : State, ∀ x ∈ ([(.pushBc, s.regs.b ++ s.regs.c), (.pushDe, s.regs.d ++ s.regs.e), (.pushHl, s.regs.h ++ s.regs.l),
      (.pushAf, s.regs.a ++ (s.regs.f &&& 0xF0))] : List (Instr × Word)),
    (s.Answers (s.regs.sp - 1) → s.Answers (s.regs.sp - 2) → ∃ t, s.Pushes x.2 t ∧ PushFrame s t ∧
      exec x.1 s = .next { t with cycles := 16 }) ∧
    (¬s.Answers (s.regs.sp - 1) → exec x.1 s = (s.setSp (s.regs.sp - 1)).busFault (s.regs.sp - 1)) ∧
    (∀ t1, (s.setSp (s.regs.sp - 1)).memWrite (s.regs.sp - 1) (x.2.extractLsb' 8 8) = some t1 →
      ¬t1.Answers (s.regs.sp - 2) → exec x.1 s = (t1.setSp (s.regs.sp - 2)).busFault (s.regs.sp - 2))

/-- POP (R456, R457): the low byte at SP, the high byte at SP+1, SP two higher; POP AF masks the low nibble of F. No byte of memory
changes; 12 cycles. -/
def Obligations.PopReadsLowByteFirst : Prop :=
  (∀ p : StackPair, encode (.popPair p) = [0b11#2 ++ p.code ++ 0b0001#4]) ∧ encode .popAf = [0b11110001] ∧
  ∀ s : State,
    (s.Answers s.regs.sp → s.Answers (s.regs.sp + 1) → ∃ lo hi, s.memRead s.regs.sp = some lo ∧
      s.memRead (s.regs.sp + 1) = some hi ∧
      exec .popBc s = .next { s with regs := { s.regs with b := hi, c := lo, sp := s.regs.sp + 2 }, cycles := 12 } ∧
      exec .popDe s = .next { s with regs := { s.regs with d := hi, e := lo, sp := s.regs.sp + 2 }, cycles := 12 } ∧
      exec .popHl s = .next { s with regs := { s.regs with h := hi, l := lo, sp := s.regs.sp + 2 }, cycles := 12 } ∧
      exec .popAf s = .next { s with regs := { s.regs with a := hi, f := lo &&& 0xF0, sp := s.regs.sp + 2 }, cycles := 12 }) ∧
    ∀ i ∈ [Instr.popBc, .popDe, .popHl, .popAf],
      (¬s.Answers s.regs.sp → exec i s = s.busFault s.regs.sp) ∧
      (s.Answers s.regs.sp → ¬s.Answers (s.regs.sp + 1) →
        exec i s = (s.setSp (s.regs.sp + 1)).busFault (s.regs.sp + 1))

/-- With the two stack bytes in RAM the CPU can reach, PUSH of a pair and POP into any pair move the value and give SP back. -/
def Obligations.PopUndoesPush : Prop :=
  ∀ (s : State) (p q : StackPair) (k1 k2 : Nat), ramAddr (s.regs.sp - 1) → ramAddr (s.regs.sp - 2) →
    s.blocked (s.regs.sp - 1) = false → s.blocked (s.regs.sp - 2) = false →
    s.cellOf (s.regs.sp - 1).toNat = some k1 → s.cellOf (s.regs.sp - 2).toNat = some k2 → k1 ≠ k2 →
    ∃ t u, exec (.pushPair p) s = .next t ∧ exec (.popPair q) t = .next u ∧
      u.reg16 (pairOf q) = s.reg16 (pairOf p) ∧ u.regs.sp = s.regs.sp ∧ (p = q → u.regs = s.regs)

/-! ### 8-bit arithmetic and logic -/

/-- The eight operations on a register (R502, R505, R508, R511, R514, R517, R520, R523): A, F, and nothing else; 4 cycles. -/
def Obligations.AluOnRegister : Prop :=
  ∀ (op : AluOp) (r : Reg8) (s : State),
    encode (.aluReg op r) = [0b10#2 ++ op.code ++ r.code] ∧
    exec (.aluReg op r) s =
      .next { s with regs := { s.regs with a := aluA op s.regs.a (s.reg r) s.flagC, f := aluF op s.regs.a (s.reg r) s.flagC }
                     cycles := 4 }

/-- The same on the byte at HL (R503, R506, R509, R512, R515, R518, R521, R524): 8 cycles, and no byte of memory changes. -/
def Obligations.AluOnMemory : Prop :=
  ∀ (op : AluOp) (s : State),
    encode (.aluAtHl op) = [0b10#2 ++ op.code ++ 0b110#3] ∧
    (s.Answers s.hl → ∃ v, s.memRead s.hl = some v ∧
      exec (.aluAtHl op) s =
        .next { s with regs := { s.regs with a := aluA op s.regs.a v s.flagC, f := aluF op s.regs.a v s.flagC }, cycles := 8 }) ∧
    (¬s.Answers s.hl → exec (.aluAtHl op) s = s.busFault s.hl)

/-- The same on an immediate (R504, R507, R510, R513, R516, R519, R522, R525): 8 cycles. -/
def Obligations.AluOnImmediate : Prop :=
  ∀ (op : AluOp) (n : Byte) (s : State),
    encode (.aluN8 op n) = [0b11#2 ++ op.code ++ 0b110#3, n] ∧
    exec (.aluN8 op n) s =
      .next { s with regs := { s.regs with a := aluA op s.regs.a n s.flagC, f := aluF op s.regs.a n s.flagC }, cycles := 8 }

/-- INC and DEC of a byte (R526 to R529): the byte, Z, N and H as given, C kept, nothing else. On (HL) one read and one write of the
same address. -/
def Obligations.IncDecByte : Prop :=
  ∀ (s : State) (r : Reg8),
    (encode (.incReg r) = [0b00#2 ++ r.code ++ 0b100#3] ∧ encode (.decReg r) = [0b00#2 ++ r.code ++ 0b101#3] ∧
      encode .incAtHl = [0b00110100] ∧ encode .decAtHl = [0b00110101]) ∧
    exec (.incReg r) s = .next { (s.setReg r (s.reg r + 1)).withF (s.reg r == 0xFF) false ((s.reg r).toNat % 16 == 15) s.flagC
                                 with cycles := 4 } ∧
    exec (.decReg r) s = .next { (s.setReg r (s.reg r - 1)).withF (s.reg r == 0x01) true ((s.reg r).toNat % 16 == 0) s.flagC
                                 with cycles := 4 } ∧
    (s.Answers s.hl → ∃ v t, s.memRead s.hl = some v ∧ s.memWrite s.hl (v + 1) = some t ∧ WriteFrame s t s.hl ∧
      exec .incAtHl s = .next { t.withF (v == 0xFF) false (v.toNat % 16 == 15) s.flagC with cycles := 12 }) ∧
    (s.Answers s.hl → ∃ v t, s.memRead s.hl = some v ∧ s.memWrite s.hl (v - 1) = some t ∧ WriteFrame s t s.hl ∧
      exec .decAtHl s = .next { t.withF (v == 0x01) true (v.toNat % 16 == 0) s.flagC with cycles := 12 }) ∧
    (¬s.Answers s.hl → exec .incAtHl s = s.busFault s.hl ∧ exec .decAtHl s = s.busFault s.hl)

/-- DAA, CPL, SCF and CCF (R530 to R533). DAA: one correction of 0x60, one of 0x06, each decided on the A and the flags before it. -/
def Obligations.DaaCplScfCcf : Prop :=
  ∀ s : State,
    (encode .daa = [0b00100111] ∧ encode .cpl = [0b00101111] ∧ encode .scf = [0b00110111] ∧ encode .ccf = [0b00111111]) ∧
    (let a := s.regs.a.toNat
     let big := (if s.flagC = true ∨ (s.flagN = false ∧ 0x99 < a) then 0x60 else 0 : Nat)
     let small := (if s.flagH = true ∨ (s.flagN = false ∧ 9 < a % 16) then 0x06 else 0 : Nat)
     let res : Byte := if s.flagN then BitVec.ofInt 8 (a - big - small : Int) else BitVec.ofNat 8 (a + big + small)
     exec .daa s = .next { s with regs := { s.regs with a := res, f := fOf (res == 0) s.flagN false (big == 0x60) }
                                  cycles := 4 }) ∧
    exec .cpl s = .next { s with regs := { s.regs with a := s.regs.a ^^^ 0xFF, f := fOf s.flagZ true true s.flagC }
                                 cycles := 4 } ∧
    exec .scf s = .next { s with regs := { s.regs with f := fOf s.flagZ false false true }, cycles := 4 } ∧
    exec .ccf s = .next { s with regs := { s.regs with f := fOf s.flagZ false false (!s.flagC) }, cycles := 4 }

/-- DAA is the decimal correction: after the addition, or the subtraction, with carry of two two-digit decimal numbers it leaves the two
digits of the sum, or the difference, modulo 100, and C says whether it carried, or borrowed. -/
def Obligations.DaaCorrectsDecimalArithmetic : Prop :=
  ∀ (s : State) (r : Reg8) (x y : Nat), x < 100 → y < 100 → s.regs.a = bcd x → s.reg r = bcd y →
    (∃ t u, exec (.aluReg .adc r) s = .next t ∧ exec .daa t = .next u ∧
      u.regs.a = bcd ((x + y + s.flagC.toNat) % 100) ∧ (u.flagC = true ↔ 100 ≤ x + y + s.flagC.toNat)) ∧
    ∃ t u, exec (.aluReg .sbc r) s = .next t ∧ exec .daa t = .next u ∧
      u.regs.a = bcd ((x + 100 - y - s.flagC.toNat) % 100) ∧ (u.flagC = true ↔ x < y + s.flagC.toNat)

/-! ### 16-bit arithmetic -/

/-- INC rr, DEC rr and ADD HL,rr (R561, R562, R563): the counters change no flag; the addition keeps Z, clears N, and carries out of bit 11
into H and out of bit 15 into C. -/
def Obligations.Arithmetic16 : Prop :=
  ∀ (s : State) (rr : Reg16),
    (encode (.incR16 rr) = [0b00#2 ++ rr.code ++ 0b0011#4] ∧ encode (.decR16 rr) = [0b00#2 ++ rr.code ++ 0b1011#4] ∧
      encode (.addHlR16 rr) = [0b00#2 ++ rr.code ++ 0b1001#4]) ∧
    exec (.incR16 rr) s = .next { s.setReg16 rr (s.reg16 rr + 1) with cycles := 8 } ∧
    exec (.decR16 rr) s = .next { s.setReg16 rr (s.reg16 rr - 1) with cycles := 8 } ∧
    exec (.addHlR16 rr) s =
      .next { (s.setReg16 .hl (s.hl + s.reg16 rr)).withF s.flagZ false (BitVec.carry 12 s.hl (s.reg16 rr) false)
                (BitVec.carry 16 s.hl (s.reg16 rr) false) with cycles := 8 }

/-- ADD SP,e8 and LD HL,SP+e8 (R453, R560, R564): the signed sum modulo 2^16; Z = N = 0; H and C are the carries of the unsigned addition of
the low byte, whatever the sign of e8. -/
def Obligations.SpPlusDisplacement : Prop :=
  ∀ (s : State) (e : Byte),
    (encode (.addSpE8 e) = [0b11101000, e] ∧ encode (.ldHlSpE8 e) = [0b11111000, e]) ∧
    (let v : Word := BitVec.ofInt 16 (s.regs.sp.toNat + e.toInt)
     let lo : Byte := s.regs.sp.extractLsb' 0 8
     exec (.addSpE8 e) s = .next { s with regs := { s.regs with sp := v, f := fOf false false (BitVec.carry 4 lo e false)
                                                                              (BitVec.carry 8 lo e false) }
                                          cycles := 16 } ∧
     exec (.ldHlSpE8 e) s = .next { s with regs := { s.regs with h := v.extractLsb' 8 8, l := v.extractLsb' 0 8
                                                                 f := fOf false false (BitVec.carry 4 lo e false)
                                                                        (BitVec.carry 8 lo e false) }
                                           cycles := 12 })

/-! ### Rotates, shifts and bits -/

/-- RLCA, RRCA, RLA, RRA (R600 to R603): A, C, and Z = N = H = 0 whatever the result. -/
def Obligations.AccumulatorRotates : Prop :=
  encode .rlca = [0b00000111] ∧ encode .rrca = [0b00001111] ∧ encode .rla = [0b00010111] ∧ encode .rra = [0b00011111] ∧
  ∀ s : State, ∀ x ∈ ([(.rlca, .rlc), (.rrca, .rrc), (.rla, .rl), (.rra, .rr)] : List (Instr × RotOp)),
    exec x.1 s = .next { s with regs := { s.regs with a := rotByte x.2 s.regs.a s.flagC
                                                      f := fOf false false false (rotCarry x.2 s.regs.a) }
                                cycles := 4 }

/-- The CB rotates and shifts of a register (R605, R607, R609, R611, R613, R615, R617, R619): the register, Z, C, and N = H = 0. -/
def Obligations.RotateRegister : Prop :=
  ∀ (op : RotOp) (r : Reg8) (s : State),
    encode (.rotReg op r) = [0xCB, 0b00#2 ++ op.code ++ r.code] ∧
    exec (.rotReg op r) s =
      .next { (s.setReg r (rotByte op (s.reg r) s.flagC)).withF (rotByte op (s.reg r) s.flagC == 0) false false
                (rotCarry op (s.reg r)) with cycles := 8 }

/-- The same of the byte at HL (R606, R608, R610, R612, R614, R616, R618, R620): one read and one write of the same address. -/
def Obligations.RotateMemory : Prop :=
  ∀ (op : RotOp) (s : State),
    encode (.rotAtHl op) = [0xCB, 0b00#2 ++ op.code ++ 0b110#3] ∧
    (s.Answers s.hl → ∃ v t, s.memRead s.hl = some v ∧ s.memWrite s.hl (rotByte op v s.flagC) = some t ∧ WriteFrame s t s.hl ∧
      exec (.rotAtHl op) s =
        .next { t.withF (rotByte op v s.flagC == 0) false false (rotCarry op v) with cycles := 16 }) ∧
    (¬s.Answers s.hl → exec (.rotAtHl op) s = s.busFault s.hl)

/-- BIT (R621, R622): Z is the complement of the tested bit, N = 0, H = 1, C kept, and nothing else changes. RES and SET (R623 to R626): the one
bit of the register or of the byte at HL, and no flag. -/
def Obligations.BitTestResetSet : Prop :=
  ∀ (b : Fin 8) (r : Reg8) (s : State),
    (encode (.bitReg b r) = [0xCB, 0b01#2 ++ BitVec.ofNat 3 b.val ++ r.code] ∧
      encode (.bitAtHl b) = [0xCB, 0b01#2 ++ BitVec.ofNat 3 b.val ++ 0b110#3]) ∧
    exec (.bitReg b r) s = .next { s.withF ((s.reg r).toNat / 2 ^ b.val % 2 == 0) false true s.flagC with cycles := 8 } ∧
    (s.Answers s.hl → ∃ v, s.memRead s.hl = some v ∧
      exec (.bitAtHl b) s = .next { s.withF (v.toNat / 2 ^ b.val % 2 == 0) false true s.flagC with cycles := 12 }) ∧
    (¬s.Answers s.hl → exec (.bitAtHl b) s = s.busFault s.hl) ∧
    ∀ on : Bool,
      let onReg := if on then Instr.setReg b r else Instr.resReg b r
      let onHl := if on then Instr.setAtHl b else Instr.resAtHl b
      encode onReg = [0xCB, 0b1#1 ++ BitVec.ofBool on ++ BitVec.ofNat 3 b.val ++ r.code] ∧
      encode onHl = [0xCB, 0b1#1 ++ BitVec.ofBool on ++ BitVec.ofNat 3 b.val ++ 0b110#3] ∧
      (∃ v, (∀ j : Fin 8, v.getLsbD j = if j = b then on else (s.reg r).getLsbD j) ∧
        exec onReg s = .next { s.setReg r v with cycles := 8 }) ∧
      (s.Answers s.hl → ∃ u v t, s.memRead s.hl = some u ∧ (∀ j : Fin 8, v.getLsbD j = if j = b then on else u.getLsbD j) ∧
        s.memWrite s.hl v = some t ∧ WriteFrame s t s.hl ∧ exec onHl s = .next { t with cycles := 16 }) ∧
      (¬s.Answers s.hl → exec onHl s = s.busFault s.hl)

/-- The prefix (R604, R713): the row PREFIX CB with a sub-opcode runs the CB row the two bytes decode to; with an answering bus at HL
it completes. -/
def Obligations.PrefixRunsCbRow : Prop :=
  ∀ (sub : Byte) (s : State), ∃ i, decode [0xCB, sub] = .ok (i, []) ∧ encode i = [0xCB, sub] ∧
    exec (.prefixCb sub) s = exec i s ∧ (s.Answers s.hl → ∃ t, exec (.prefixCb sub) s = .next t)

/-! ### Control transfer -/

/-- JP and JR (R651 to R655): PC alone changes. A relative target is the address of the next instruction plus the signed displacement,
modulo 2^16; a transfer not taken changes nothing. -/
def Obligations.Jumps : Prop :=
  ∀ (s : State) (cc : Cond) (w : Word) (e : Byte),
    (encode (.jpA16 w) = [0b11000011, w.extractLsb' 0 8, w.extractLsb' 8 8] ∧
      encode (.jpCond cc w) = [0b110#3 ++ cc.code ++ 0b010#3, w.extractLsb' 0 8, w.extractLsb' 8 8] ∧
      encode .jpHl = [0b11101001] ∧ encode (.jrE8 e) = [0b00011000, e] ∧
      encode (.jrCond cc e) = [0b001#3 ++ cc.code ++ 0b000#3, e]) ∧
    (let near : Word := BitVec.ofInt 16 (s.regs.pc.toNat + e.toInt)
     exec (.jpA16 w) s = .next { s with regs := { s.regs with pc := w }, cycles := 16 } ∧
     exec .jpHl s = .next { s with regs := { s.regs with pc := s.regs.h ++ s.regs.l }, cycles := 4 } ∧
     exec (.jrE8 e) s = .next { s with regs := { s.regs with pc := near }, cycles := 12 } ∧
     (condOf cc s.regs.f = true →
       exec (.jpCond cc w) s = .next { s with regs := { s.regs with pc := w }, cycles := 16 } ∧
       exec (.jrCond cc e) s = .next { s with regs := { s.regs with pc := near }, cycles := 12 }) ∧
     (condOf cc s.regs.f = false →
       exec (.jpCond cc w) s = .next { s with cycles := 12 } ∧ exec (.jrCond cc e) s = .next { s with cycles := 8 }))

/-- CALL and RST (R656, R657, R661): PC, the address of the next instruction, is pushed, and PC becomes the target; a CALL not
taken changes nothing. A raise leaves SP already decremented and PC as it was. -/
def Obligations.CallsAndRestarts : Prop :=
  ∀ (s : State) (cc : Cond) (w : Word) (y : Fin 8),
    (encode (.callA16 w) = [0b11001101, w.extractLsb' 0 8, w.extractLsb' 8 8] ∧
      encode (.callCond cc w) = [0b110#3 ++ cc.code ++ 0b100#3, w.extractLsb' 0 8, w.extractLsb' 8 8] ∧
      encode (.rst y) = [0b11#2 ++ BitVec.ofNat 3 y.val ++ 0b111#3]) ∧
    (condOf cc s.regs.f = false → exec (.callCond cc w) s = .next { s with cycles := 12 }) ∧
    ∀ x ∈ ([(.callA16 w, w, 24), (.rst y, BitVec.ofNat 16 (8 * y.val), 16)] ++
        (if condOf cc s.regs.f then [(.callCond cc w, w, 24)] else []) : List (Instr × Word × Nat)),
      (s.Answers (s.regs.sp - 1) → s.Answers (s.regs.sp - 2) → ∃ t, s.Pushes s.regs.pc t ∧ PushFrame s t ∧
        exec x.1 s = .next { t with regs := { t.regs with pc := x.2.1 }, cycles := x.2.2 }) ∧
      (¬s.Answers (s.regs.sp - 1) → exec x.1 s = (s.setSp (s.regs.sp - 1)).busFault (s.regs.sp - 1)) ∧
      (∀ t1, (s.setSp (s.regs.sp - 1)).memWrite (s.regs.sp - 1) (s.regs.pc.extractLsb' 8 8) = some t1 →
        ¬t1.Answers (s.regs.sp - 2) → exec x.1 s = (t1.setSp (s.regs.sp - 2)).busFault (s.regs.sp - 2))

/-- RET, RET cc and RETI (R658, R659, R660): PC is popped, SP is two higher; RETI sets IME at once and leaves IME_PENDING; a RET not
taken changes nothing and accesses nothing. -/
def Obligations.Returns : Prop :=
  ∀ (s : State) (cc : Cond),
    (encode .ret = [0b11001001] ∧ encode (.retCond cc) = [0b110#3 ++ cc.code ++ 0b000#3] ∧ encode .reti = [0b11011001]) ∧
    (condOf cc s.regs.f = false → exec (.retCond cc) s = .next { s with cycles := 8 }) ∧
    (s.Answers s.regs.sp → s.Answers (s.regs.sp + 1) → ∃ lo hi, s.memRead s.regs.sp = some lo ∧
      s.memRead (s.regs.sp + 1) = some hi ∧
      (let regs := { s.regs with pc := hi ++ lo, sp := s.regs.sp + 2 }
       exec .ret s = .next { s with regs := regs, cycles := 16 } ∧
       (condOf cc s.regs.f = true → exec (.retCond cc) s = .next { s with regs := regs, cycles := 20 }) ∧
       exec .reti s = .next { s with regs := regs, ime := true, cycles := 16 })) ∧
    ∀ i ∈ [Instr.ret, .reti] ++ (if condOf cc s.regs.f then [.retCond cc] else []),
      (¬s.Answers s.regs.sp → exec i s = s.busFault s.regs.sp) ∧
      (s.Answers s.regs.sp → ¬s.Answers (s.regs.sp + 1) →
        exec i s = (s.setSp (s.regs.sp + 1)).busFault (s.regs.sp + 1))

/-! ### The system instructions and interrupts -/

/-- NOP, STOP, DI, EI and HALT (R705, R706, R710, R711, R712): what each sets, and nothing else; 4 cycles. -/
def Obligations.SystemInstructions : Prop :=
  ∀ (s : State) (n : Byte),
    (encode .nop = [0b00000000] ∧ encode (.stop n) = [0b00010000, n] ∧ encode .di = [0b11110011] ∧
      encode .ei = [0b11111011] ∧ encode .halt = [0b01110110]) ∧
    exec .nop s = .next { s with cycles := 4 } ∧
    exec (.stop n) s = .next { s with cycles := 4 } ∧
    exec .di s = .next { s with ime := false, imePending := false, cycles := 4 } ∧
    exec .ei s = .next { s with imePending := true, cycles := 4 } ∧
    (let waiting := ∃ i : Fin 5, s.ie.getLsbD i = true ∧ s.iflag.getLsbD i = true
     (s.ime = false → ¬waiting → exec .halt s = .next { s with haltBug := true, cycles := 4 }) ∧
     (s.ime = true ∨ waiting → exec .halt s = .next { s with halted := true, cycles := 4 }))

/-- handle_interrupts (R811, R813, R819, R820, R821). With no source both enabled and requested nothing happens. Otherwise a halt ends; with IME
the lowest-numbered such source is dispatched: PC is pushed, PC becomes its vector, IME and its bit of IF are cleared, 16 cycles or 20 from a
halt; without IME nothing more happens, at 0 cycles. A raise at one of the two writes leaves the halt ended, SP moved, and PC and IME as they
were. -/
def Obligations.InterruptDispatch : Prop :=
  ∀ s : State,
    ((∀ i : Fin 5, (s.ie.getLsbD i && s.iflag.getLsbD i) = false) → s.handleInterrupts = .next { s with cycles := 0 }) ∧
    ∀ i : Fin 5, s.ie.getLsbD i = true → s.iflag.getLsbD i = true →
      (∀ j : Fin 5, j < i → (s.ie.getLsbD j && s.iflag.getLsbD j) = false) →
      (s.ime = false → s.handleInterrupts = .next { s with halted := false, cycles := 0 }) ∧
      (s.ime = true →
        let s0 : State := { s with halted := false }
        (s.Answers (s.regs.sp - 1) → s.Answers (s.regs.sp - 2) → ∃ t, s0.Pushes s.regs.pc t ∧ PushFrame s0 t ∧
          s.handleInterrupts =
            .next { t with regs := { t.regs with pc := BitVec.ofNat 16 (0x40 + 8 * i.val) }, ime := false
                           iflag := t.iflag &&& ~~~BitVec.twoPow 8 i.val, cycles := if s.halted then 20 else 16 }) ∧
        (¬s.Answers (s.regs.sp - 1) → s.handleInterrupts = (s0.setSp (s.regs.sp - 1)).busFault (s.regs.sp - 1)) ∧
        (∀ t1, (s0.setSp (s.regs.sp - 1)).memWrite (s.regs.sp - 1) (s.regs.pc.extractLsb' 8 8) = some t1 →
          ¬t1.Answers (s.regs.sp - 2) → s.handleInterrupts = (t1.setSp (s.regs.sp - 2)).busFault (s.regs.sp - 2)))

/-! ### What no instruction does -/

/-- The flags are written by the instructions whose rules list them and by no other (R104). -/
def Obligations.FlagsWrittenByListedInstructionsOnly : Prop :=
  ∀ (i : Instr) (s t : State), exec i s = .next t → t.regs.f = s.regs.f ∨
    (∃ op r, i = .aluReg op r) ∨ (∃ op, i = .aluAtHl op) ∨ (∃ op n, i = .aluN8 op n) ∨ (∃ r, i = .incReg r) ∨
    (∃ r, i = .decReg r) ∨ i ∈ [Instr.incAtHl, .decAtHl, .daa, .cpl, .scf, .ccf, .rlca, .rrca, .rla, .rra, .popAf] ∨
    (∃ rr, i = .addHlR16 rr) ∨ (∃ e, i = .addSpE8 e) ∨ (∃ e, i = .ldHlSpE8 e) ∨ (∃ op r, i = .rotReg op r) ∨
    (∃ op, i = .rotAtHl op) ∨ (∃ b r, i = .bitReg b r) ∨ (∃ b, i = .bitAtHl b) ∨ ∃ sub, i = .prefixCb sub

/-- IME is changed by DI and RETI, IME_PENDING by DI and EI, HALTED and HALT_BUG by HALT, and by no other instruction (R106 to
R109): the rest of what changes them is the fetch and the interrupt handling. -/
def Obligations.ControlStateChangedByNamedInstructionsOnly : Prop :=
  ∀ (i : Instr) (s t : State), exec i s = .next t →
    (t.ime = s.ime ∨ i = .di ∨ i = .reti) ∧ (t.imePending = s.imePending ∨ i = .di ∨ i = .ei) ∧
    (t.halted = s.halted ∨ i = .halt) ∧ (t.haltBug = s.haltBug ∨ i = .halt) ∧ t.fault = s.fault ∧ t.opAddr = s.opAddr

/-- Every instruction reports a multiple of 4 cycles, from 4 to 24 (R920). -/
def Obligations.CycleCountsAreFours : Prop :=
  ∀ (i : Instr) (s t : State), exec i s = .next t → t.cycles % 4 = 0 ∧ 4 ≤ t.cycles ∧ t.cycles ≤ 24

/-- The units stand still during an instruction, and no instruction changes ROM, the cartridge's kind and sizes, or anything the host owns
(R130, R216, R234). Only an instruction that stores to 0xFF46 restarts the DMA (R860), and only one that stores to 0xFF04 changes DIV and its
accumulator: it clears both (R113). -/
def Obligations.UnitsStandStillDuringAnInstruction : Prop :=
  ∀ (i : Instr) (s t : State), exec i s = .next t →
    t.ppu.mode = s.ppu.mode ∧ t.ppu.dots = s.ppu.dots ∧ t.ppu.ly = s.ppu.ly ∧ t.ppu.fb = s.ppu.fb ∧
    t.ppu.lcdWasOff = s.ppu.lcdWasOff ∧ t.presented = s.presented ∧
    t.timer.timaAcc = s.timer.timaAcc ∧
    (t.timer.div = s.timer.div ∧ t.timer.divAcc = s.timer.divAcc ∨ StoresTo i s 0xFF04 ∧ t.timer.div = 0 ∧ t.timer.divAcc = 0) ∧
    (t.dma = s.dma ∨
      StoresTo i s 0xFF46 ∧ t.dma.active = true ∧ t.dma.index = 0 ∧ t.dma.acc = 0 ∧ t.dma.src = t.dma.reg ++ 0#8) ∧
    t.frameAcc = s.frameAcc ∧ t.joypad.buttons = s.joypad.buttons ∧ t.input = s.input ∧ t.iter = s.iter ∧ t.policy = s.policy ∧
    (∀ k, romBase ≤ k → t.mem.read k = s.mem.read k) ∧
    t.cart.kind = s.cart.kind ∧ t.cart.romSize = s.cart.romSize ∧ t.cart.ramSize = s.cart.ramSize

/-! ### The bus -/

/-- The devices of R201 do not overlap (R202), and the addresses no device accepts are those of R203: under OpenBus they read 0xFF and a
write changes nothing, under Fault both raise. -/
def Obligations.BusRoutesEveryAddress : Prop :=
  (∀ (a : Nat) (d e : Device), d.accepts a = true → e.accepts a = true → d = e) ∧
  (∀ (a : Nat) (d : Device), deviceAt a = some d ↔ d.accepts a = true) ∧
  ∀ a : Word, (deviceAt a.toNat = none ↔
      (a = 0xFF03 ∨ (0xFF08 ≤ a.toNat ∧ a.toNat ≤ 0xFF0E) ∨ (0xFF10 ≤ a.toNat ∧ a.toNat ≤ 0xFF3F) ∨
        (0xFF4C ≤ a.toNat ∧ a.toNat ≤ 0xFF7F))) ∧
    (deviceAt a.toNat = none → ∀ (s : State) (v : Byte),
      (s.policy = .openBus → s.busRead a = some 0xFF ∧ s.busWrite a v = some s) ∧
      (s.policy = .fault → s.busRead a = none ∧ s.busWrite a v = none ∧
        (s.blocked a = false → ∀ k k', s.readThen a k = s.busFault a ∧ s.writeThen a v k' = s.busFault a)))

/-- The CPU's gate (R230, R231, R233), as the rule's list of tests: a blocked access reads 0xFF or is dropped; every other goes to the
bus. -/
def Obligations.CpuAccessesAreGated : Prop :=
  ∀ (s : State) (a : Word) (v : Byte),
    let dma := s.dma.active = true ∧ ¬(0xFF80 ≤ a.toNat ∧ a.toNat ≤ 0xFFFE)
    let vram := (0x8000 ≤ a.toNat ∧ a.toNat ≤ 0x9FFF) ∧ s.ppu.mode = .draw
    let oam := (0xFE00 ≤ a.toNat ∧ a.toNat ≤ 0xFE9F) ∧ (s.ppu.mode = .oamScan ∨ s.ppu.mode = .draw)
    (dma ∨ vram ∨ oam → s.memRead a = some 0xFF ∧ s.memWrite a v = some s) ∧
    (¬(dma ∨ vram ∨ oam) → s.memRead a = s.busRead a ∧ s.memWrite a v = s.busWrite a v)

/-- A write of the CPU (R200, R231) has the frame of a write; where it reaches a byte of RAM that byte reads back, through every address of
the same byte, the echo included (R204 to R208). -/
def Obligations.WriteChangesOneByte : Prop :=
  ∀ (s t : State) (a : Word) (v : Byte), s.memWrite a v = some t →
    WriteFrame s t a ∧ (s.blocked a = true → t = s) ∧
    (s.blocked a = false → ramAddr a → t = { s with mem := t.mem } ∧
      ∀ k, s.cellOf a.toNat = some k → t.mem.read k = v ∧
        ∀ x : Word, s.cellOf x.toNat = some k → t.busRead x = some v)

/-- Which bytes the addresses of the fixed arrays reach (R204 to R208): WRAM and its echo, VRAM, OAM and HRAM read their own byte; the
prohibited range reads 0xFF and keeps nothing. -/
def Obligations.FixedArraysOfTheMap : Prop :=
  ∀ (s : State) (a : Word) (v : Byte),
    ((0xC000 ≤ a.toNat ∧ a.toNat ≤ 0xDFFF) ∨ (0x8000 ≤ a.toNat ∧ a.toNat ≤ 0x9FFF) ∨
        (0xFE00 ≤ a.toNat ∧ a.toNat ≤ 0xFE9F) ∨ (0xFF80 ≤ a.toNat ∧ a.toNat ≤ 0xFFFE) →
      s.busRead a = some (s.mem.read a.toNat) ∧ s.busWrite a v = some { s with mem := s.mem.write a.toNat v }) ∧
    (0xE000 ≤ a.toNat ∧ a.toNat ≤ 0xFDFF →
      s.busRead a = s.busRead (a - 0x2000) ∧ s.busWrite a v = s.busWrite (a - 0x2000) v) ∧
    (0xFEA0 ≤ a.toNat ∧ a.toNat ≤ 0xFEFF → s.busRead a = some 0xFF ∧ s.busWrite a v = some s)

/-- The registers at the bus (R111 to R115, R117 to R124, R127, R129, R209 to R213): what a read of each address answers, and the next state of a
write to it, whole, so that no other register of the device changes. P1 stores bits 5:4 and reads the value of R870; DIV is cleared with its
accumulator; LY ignores a write; a write of DMA starts a transfer; STAT keeps bits 7:3 and reads COINC and MODE below. A write of STAT or LYC
stores and, with LCDC[7] = 1, evaluates the STAT line at once; while the LCD is off nothing is evaluated (R846). Those stored as written read
back. -/
def Obligations.RegistersAtTheBus : Prop :=
  ∀ (s : State) (v : Byte),
    (∀ x ∈ ([(0xFF00, s.joypad.read), (0xFF01, s.serial.sb), (0xFF02, s.serial.sc), (0xFF04, s.timer.div), (0xFF05, s.timer.tima),
        (0xFF06, s.timer.tma), (0xFF07, s.timer.tac), (0xFF0F, s.iflag), (0xFF40, s.ppu.lcdc),
        (0xFF41, s.ppu.statHi ++ BitVec.ofBool s.ppu.coinc ++ s.ppu.mode.code), (0xFF42, s.ppu.scy), (0xFF43, s.ppu.scx),
        (0xFF44, s.ppu.ly), (0xFF45, s.ppu.lyc), (0xFF46, s.dma.reg), (0xFF47, s.ppu.bgp), (0xFF48, s.ppu.obp0), (0xFF49, s.ppu.obp1),
        (0xFF4A, s.ppu.wy), (0xFF4B, s.ppu.wx), (0xFFFF, s.ie)] : List (Word × Byte)), s.busRead x.1 = some x.2) ∧
    (∀ x ∈ ([(0xFF00, { s with joypad := { s.joypad with sel := v.extractLsb' 4 2 } }),
        (0xFF01, { s with serial := { s.serial with sb := v } }), (0xFF02, { s with serial := { s.serial with sc := v } }),
        (0xFF04, { s with timer := { s.timer with div := 0, divAcc := 0 } }), (0xFF05, { s with timer := { s.timer with tima := v } }),
        (0xFF06, { s with timer := { s.timer with tma := v } }), (0xFF07, { s with timer := { s.timer with tac := v } }),
        (0xFF0F, { s with iflag := v }), (0xFF40, { s with ppu := { s.ppu with lcdc := v } }),
        (0xFF42, { s with ppu := { s.ppu with scy := v } }), (0xFF43, { s with ppu := { s.ppu with scx := v } }), (0xFF44, s),
        (0xFF46, { s with dma := { reg := v, active := true, src := BitVec.ofNat 16 (v.toNat * 256), index := 0, acc := 0 } }),
        (0xFF47, { s with ppu := { s.ppu with bgp := v } }), (0xFF48, { s with ppu := { s.ppu with obp0 := v } }),
        (0xFF49, { s with ppu := { s.ppu with obp1 := v } }), (0xFF4A, { s with ppu := { s.ppu with wy := v } }),
        (0xFF4B, { s with ppu := { s.ppu with wx := v } }), (0xFFFF, { s with ie := v })] : List (Word × State)),
      s.busWrite x.1 v = some x.2) ∧
    (∀ x ∈ ([(0xFF41, { s with ppu := { s.ppu with statHi := v.extractLsb' 3 5 } }), (0xFF45, { s with ppu := { s.ppu with lyc := v } })] :
        List (Word × State)),
      (s.ppu.lcdc.getLsbD 7 = true → s.busWrite x.1 v = some x.2.evalStat) ∧
      (s.ppu.lcdc.getLsbD 7 = false → s.busWrite x.1 v = some x.2)) ∧
    (∀ a ∈ ([0xFF01, 0xFF02, 0xFF05, 0xFF06, 0xFF07, 0xFF0F, 0xFF40, 0xFF42, 0xFF43, 0xFF45, 0xFF46, 0xFF47, 0xFF48, 0xFF49, 0xFF4A,
        0xFF4B, 0xFFFF] : List Word), ∃ t, s.busWrite a v = some t ∧ t.busRead a = some v ∧ WriteFrame s t a) ∧
    (∃ t, s.busWrite 0xFF41 v = some t ∧ WriteFrame s t 0xFF41 ∧
      t.busRead 0xFF41 = some (v.extractLsb' 3 5 ++ BitVec.ofBool t.ppu.coinc ++ t.ppu.mode.code)) ∧
    (∃ t w, s.busWrite 0xFF00 v = some t ∧ t.busRead 0xFF00 = some w ∧ w.extractLsb' 4 4 = 0b11#2 ++ v.extractLsb' 4 2)

/-! ### The cartridge -/

/-- No-MBC (R255, R256): ROM is read at its own address and a write of it changes nothing; external RAM is there up to RAM_SIZE, and beyond it
reads 0xFF. MBC1: the registers (R260) and what the windows read through them (R262 to R265); the mask of R261 is written as a remainder,
which it is for the power-of-two ROM_BANKS of R253. -/
def Obligations.CartridgeBanking : Prop :=
  ∀ (s : State) (a : Word) (v : Byte),
    (s.cart.kind = .noMbc →
      (a.toNat < 0x8000 → s.busRead a = some (s.mem.read (romBase + a.toNat)) ∧ s.busWrite a v = some s) ∧
      (0xA000 ≤ a.toNat → a.toNat < 0xC000 → a.toNat - 0xA000 < s.cart.ramSize →
        s.busRead a = some (s.mem.read (cramBase + (a.toNat - 0xA000))) ∧
        s.busWrite a v = some { s with mem := s.mem.write (cramBase + (a.toNat - 0xA000)) v }) ∧
      (0xA000 ≤ a.toNat → a.toNat < 0xC000 → s.cart.ramSize ≤ a.toNat - 0xA000 →
        s.busRead a = some 0xFF ∧ s.busWrite a v = some s)) ∧
    ∀ n : Nat, s.cart.kind = .mbc1 → s.cart.romSize = 0x8000 * 2 ^ n →
      let rom (bank : Nat) (off : Nat) : Byte := s.mem.read (romBase + (bank % 2 ^ (n + 1) * 0x4000 + off))
      let ramOff := ((if s.cart.mode = 1 then s.cart.bank2.toNat * 0x2000 else 0) + (a.toNat - 0xA000)) % s.cart.ramSize
      (a.toNat < 0x2000 → s.busWrite a v = some { s with cart := { s.cart with ramg := BitVec.ofNat 4 v.toNat } }) ∧
      (0x2000 ≤ a.toNat → a.toNat < 0x4000 →
        s.busWrite a v = some { s with cart := { s.cart with bank1 := if v.toNat % 32 = 0 then 1 else BitVec.ofNat 5 v.toNat } }) ∧
      (0x4000 ≤ a.toNat → a.toNat < 0x6000 →
        s.busWrite a v = some { s with cart := { s.cart with bank2 := BitVec.ofNat 2 v.toNat } }) ∧
      (0x6000 ≤ a.toNat → a.toNat < 0x8000 →
        s.busWrite a v = some { s with cart := { s.cart with mode := BitVec.ofNat 1 v.toNat } }) ∧
      (a.toNat < 0x4000 → s.busRead a = some (rom (if s.cart.mode = 0 then 0 else 32 * s.cart.bank2.toNat) a.toNat)) ∧
      (0x4000 ≤ a.toNat → a.toNat < 0x8000 →
        s.busRead a = some (rom (32 * s.cart.bank2.toNat + s.cart.bank1.toNat) (a.toNat - 0x4000))) ∧
      (0xA000 ≤ a.toNat → a.toNat < 0xC000 →
        (s.cart.ramg ≠ 0xA ∨ s.cart.ramSize = 0 → s.busRead a = some 0xFF ∧ s.busWrite a v = some s) ∧
        (s.cart.ramg = 0xA → 0 < s.cart.ramSize →
          s.busRead a = some (s.mem.read (cramBase + ramOff)) ∧
          s.busWrite a v = some { s with mem := s.mem.write (cramBase + ramOff) v }))

/-- Construction (R250 to R253): an image is accepted exactly when it is long enough, its header checksum agrees, its type byte is one of the
six, and its size codes are legal; then the kind and the sizes are those of the header. -/
def Obligations.CartridgeConstruction : Prop :=
  ∀ image : List Byte,
    let at' (k : Nat) : Nat := (image.getD k 0).toNat
    let sum := ((List.range 25).map fun i => at' (0x134 + i)).sum
    let header := 0x150 ≤ image.length ∧ (sum + 25 + at' 0x14D) % 256 = 0
    let noMbc := at' 0x147 = 0x00 ∨ at' 0x147 = 0x08 ∨ at' 0x147 = 0x09
    let mbc1 := at' 0x147 = 0x01 ∨ at' 0x147 = 0x02 ∨ at' 0x147 = 0x03
    let sizes := at' 0x148 ≤ 8 ∧ at' 0x149 ≤ 5
    (∀ c, Cart.ofImage image = .ok c ↔
      header ∧ (noMbc ∨ mbc1) ∧ sizes ∧
        c = { kind := if at' 0x147 % 8 = 0 ∨ at' 0x147 = 9 then .noMbc else .mbc1, romSize := 0x8000 * 2 ^ at' 0x148
              ramSize := [0, 0x800, 0x2000, 0x8000, 0x20000, 0x10000].getD (at' 0x149) 0
              ramg := 0, bank1 := 1, bank2 := 0, mode := 0 }) ∧
    (header → ¬(noMbc ∨ mbc1) → Cart.ofImage image = .error (.unsupportedMbc (image.getD 0x147 0))) ∧
    (¬header → Cart.ofImage image = .error .invalidRom) ∧
    (header → noMbc ∨ mbc1 → ¬sizes → Cart.ofImage image = .error .invalidRom)

/-- Loading a cartridge (R250, R253, R882, R900): the state after it is the reset of R160, as ResetValues states it, for that cartridge, the
parameters and the loaded memory; ROM reads the image, 0xFF beyond it; a RAM byte the INIT_* lists give reads that byte. Where the image fails to
construct, the state holds that record, and a step of it executes nothing: it answers the fault (R254, R804; notes/assumptions/4.md). -/
def Obligations.LoadedCartridgeIsInMemory : Prop :=
  ∀ (image : List Byte) (init : InitMemory) (policy : UnmappedPolicy) (input : List (Nat × Buttons)),
    let s := State.loadCartridge image init policy input
    (∀ r, Cart.ofImage image = .error r → s.fault = some r ∧ step s = .fault (Fault.of r s)) ∧
    ∀ c, Cart.ofImage image = .ok c →
    s = State.powerOn c s.mem policy input ∧
    s.cart = c ∧ s.policy = policy ∧ s.input = input ∧ s.fault = none ∧ s.regs.pc = 0x0100 ∧ s.regs.sp = 0xFFFE ∧ s.mem.wf ∧
    (∀ k, s.mem.read (romBase + k) = image.getD k 0xFF) ∧
    (∀ k v, init.wram[k]? = some v → k < 0x2000 → s.mem.read (0xC000 + k) = v) ∧
    (∀ k v, init.hram[k]? = some v → k < 0x7F → s.mem.read (0xFF80 + k) = v) ∧
    (∀ k v, init.vram[k]? = some v → k < 0x2000 → s.mem.read (0x8000 + k) = v) ∧
    (∀ k v, init.oam[k]? = some v → k < 160 → s.mem.read (0xFE00 + k) = v) ∧
    ∀ k v, init.cram[k]? = some v → k < c.ramSize → s.mem.read (cramBase + k) = v

/-! ### Timer, joypad -/

/-- The timer (R831 to R834) advances cycle by cycle: two updates are one by their sum, and one cycle increments DIV when DIV_ACC is full
and, while TAC[2] is set, TIMA when TIMA_ACC is full, with the reload and the request at its overflow; nothing but the timer and IF changes.
With TIMA_ACC at or above the period, as a write of TAC that shortens it leaves it (R833), an update first takes the period out of TIMA_ACC for
one TIMA increment, and goes on from there: after it TIMA_ACC is the remainder. -/
def Obligations.TimerAdvancesByCycles : Prop :=
  (∀ (s : State) (a b : Nat), s.timerUpdate (a + b) = (s.timerUpdate a).timerUpdate b) ∧
  ∀ s : State, let p := if s.timer.tac.toNat % 4 = 0 then 256 else 4 ^ (s.timer.tac.toNat % 4)
    let on := s.timer.tac.toNat / 4 % 2 = 1
    (∀ c, on → p ≤ s.timer.timaAcc →
      let u : State := if s.timer.tima = 0xFF then { s with timer := { s.timer with tima := s.timer.tma }, iflag := s.iflag ||| 0x04 }
        else { s with timer := { s.timer with tima := s.timer.tima + 1 } }
      s.timerUpdate c = State.timerUpdate { u with timer := { u.timer with timaAcc := s.timer.timaAcc - p } } c ∧
      (s.timerUpdate c).timer.timaAcc = (s.timer.timaAcc + c) % p) ∧
    (s.timer.divAcc < 256 →
    let t := s.timerUpdate 1
    t = { s with timer := t.timer, iflag := t.iflag } ∧ t.timer.tma = s.timer.tma ∧ t.timer.tac = s.timer.tac ∧
    (s.timer.divAcc < 255 → t.timer.div = s.timer.div ∧ t.timer.divAcc = s.timer.divAcc + 1) ∧
    (s.timer.divAcc = 255 → t.timer.div = s.timer.div + 1 ∧ t.timer.divAcc = 0) ∧
    (¬on → t.timer.tima = s.timer.tima ∧ t.timer.timaAcc = s.timer.timaAcc ∧ t.iflag = s.iflag) ∧
    (on → s.timer.timaAcc + 1 < p →
      t.timer.tima = s.timer.tima ∧ t.timer.timaAcc = s.timer.timaAcc + 1 ∧ t.iflag = s.iflag) ∧
    (on → s.timer.timaAcc + 1 = p → t.timer.timaAcc = 0 ∧
      (s.timer.tima ≠ 0xFF → t.timer.tima = s.timer.tima + 1 ∧ t.iflag = s.iflag) ∧
      (s.timer.tima = 0xFF → t.timer.tima = s.timer.tma ∧ t.iflag = s.iflag ||| 0x04)))

/-- The joypad (R870, R871): the value a read of P1 at the bus answers, in which a low bit is 0 exactly when a pressed button of a selected group
stands behind it; a delivered snapshot requests IF bit 4 once, exactly when some button of a selected group goes from released to pressed. -/
def Obligations.JoypadReadsAndRequests : Prop :=
  ∀ (s : State) (b : Buttons),
    let p1 := s.joypad.read
    let buttons := s.joypad.sel.getLsbD 1 = false
    let directions := s.joypad.sel.getLsbD 0 = false
    let o := s.joypad.buttons
    s.busRead 0xFF00 = some p1 ∧
    (p1.extractLsb' 6 2 = 3 ∧ p1.extractLsb' 4 2 = s.joypad.sel ∧
      (p1.getLsbD 0 = false ↔ (buttons ∧ o.a = true) ∨ (directions ∧ o.right = true)) ∧
      (p1.getLsbD 1 = false ↔ (buttons ∧ o.b = true) ∨ (directions ∧ o.left = true)) ∧
      (p1.getLsbD 2 = false ↔ (buttons ∧ o.select = true) ∨ (directions ∧ o.up = true)) ∧
      (p1.getLsbD 3 = false ↔ (buttons ∧ o.start = true) ∨ (directions ∧ o.down = true))) ∧
    (let edge := (buttons ∧ ((o.a = false ∧ b.a = true) ∨ (o.b = false ∧ b.b = true) ∨ (o.select = false ∧ b.select = true) ∨
          (o.start = false ∧ b.start = true))) ∨
        (directions ∧ ((o.right = false ∧ b.right = true) ∨ (o.left = false ∧ b.left = true) ∨ (o.up = false ∧ b.up = true) ∨
          (o.down = false ∧ b.down = true)))
     (edge → s.deliver b = { s with joypad := { s.joypad with buttons := b }, iflag := s.iflag ||| 0x10 }) ∧
     (¬edge → s.deliver b = { s with joypad := { s.joypad with buttons := b } }))

/-! ### The PPU -/

/-- eval_stat (R843, R844): COINC, the line as the OR of the four enabled conditions of the STAT register, and a STAT request on its
rising edge only; nothing else changes. -/
def Obligations.StatLineIsEdgeTriggered : Prop :=
  ∀ s : State,
    let enabled (k : Nat) := s.ppu.stat.getLsbD k = true
    let line := (s.ppu.mode = .hblank ∧ enabled 3) ∨ (s.ppu.mode = .vblank ∧ enabled 4) ∨ (s.ppu.mode = .oamScan ∧ enabled 5) ∨
      (s.ppu.ly = s.ppu.lyc ∧ enabled 6)
    let t := s.evalStat
    s.ppu.stat.extractLsb' 0 2 = s.ppu.mode.code ∧ s.ppu.stat.getLsbD 2 = s.ppu.coinc ∧
    (t.ppu.coinc = true ↔ s.ppu.ly = s.ppu.lyc) ∧ (t.ppu.statLine = true ↔ line) ∧
    (line ∧ s.ppu.statLine = false → t.iflag = s.iflag ||| 0x02) ∧ (¬line ∨ s.ppu.statLine = true → t.iflag = s.iflag) ∧
    t = { s with iflag := t.iflag, ppu := { s.ppu with coinc := t.ppu.coinc, statLine := t.ppu.statLine } }

/-- The mode machine (R841), while the LCD is on. One transition at a time: below the mode's dots only DOTS changes; at them the machine enters
the next mode at dot 0, with what the transition does, and evaluates the STAT line once, after it. And whatever transitions an update crosses,
leftover dots stay in DOTS: an update by two counts is the one after the other. -/
def Obligations.PpuModeMachine : Prop :=
  (∀ (s : State) (a b : Nat), s.ppuUpdate (a + b) = (s.ppuUpdate a).ppuUpdate b) ∧
  ∀ (s : State) (c : Nat), s.ppu.lcdc.toNat ≥ 128 → s.ppu.lcdWasOff = false →
    let len : Nat := match s.ppu.mode with | .oamScan => 80 | .draw => 172 | .hblank => 204 | .vblank => 456
    let enter (u : State) (m : PpuMode) (ly : Byte) : State := { u with ppu := { u.ppu with mode := m, dots := 0, ly := ly } }
    let ly := s.ppu.ly
    (s.ppu.dots + c < len → s.ppuUpdate c = { s with ppu := { s.ppu with dots := s.ppu.dots + c } }) ∧
    (s.ppu.dots + c = len →
      (s.ppu.mode = .oamScan → s.ppuUpdate c = (enter s .draw ly).evalStat) ∧
      (s.ppu.mode = .draw → s.ppuUpdate c = (enter s.compose .hblank ly).evalStat) ∧
      (s.ppu.mode = .hblank → ly.toNat < 143 → s.ppuUpdate c = (enter s .oamScan (ly + 1)).evalStat) ∧
      (s.ppu.mode = .hblank → ly = 143 →
        s.ppuUpdate c = (enter { s with iflag := s.iflag ||| 0x01 } .vblank 144).evalStat) ∧
      (s.ppu.mode = .vblank → ly.toNat < 153 → s.ppuUpdate c = (enter s .vblank (ly + 1)).evalStat) ∧
      (s.ppu.mode = .vblank → ly = 153 →
        s.ppuUpdate c = (enter { s with presented := s.ppu.fb :: s.presented } .oamScan 0).evalStat))

/-- A frame (R842): from mode 2 at dot 0 of line 0 with the LCD on, 70224 cycles bring the PPU back there, with exactly one frame presented, and
with VBlank requested (R847). -/
def Obligations.FrameLasts70224Cycles : Prop :=
  ∀ s : State, s.ppu.lcdc.getLsbD 7 = true → s.ppu.lcdWasOff = false → s.ppu.mode = .oamScan → s.ppu.dots = 0 → s.ppu.ly = 0 →
    let t := s.ppuUpdate 70224
    t.ppu.mode = .oamScan ∧ t.ppu.dots = 0 ∧ t.ppu.ly = 0 ∧ t.presented = t.ppu.fb :: s.presented ∧
    t.iflag.getLsbD 0 = true ∧ t.mem = s.mem ∧ t.regs = s.regs ∧ t.timer = s.timer

/-- LCD off (R849): an update resets the dot counter, LY and the mode, clears FB and the STAT line and marks the LCD as off; the first
update with the LCD on again restarts at mode 2, dot 0, evaluates the STAT line, and goes on from there. -/
def Obligations.LcdOffFreezesThePpu : Prop :=
  ∀ (s : State) (c : Nat),
    (s.ppu.lcdc.getLsbD 7 = false → s.ppuUpdate c =
      { s with ppu := { s.ppu with dots := 0, ly := 0, mode := .hblank, statLine := false, lcdWasOff := true
                                   fb := Vector.ofFn fun _ => Vector.ofFn fun _ => 0 } }) ∧
    (s.ppu.lcdc.getLsbD 7 = true → s.ppu.lcdWasOff = true → s.ppuUpdate c =
      State.ppuUpdate (State.evalStat { s with ppu := { s.ppu with lcdWasOff := false, mode := .oamScan, dots := 0 } }) c)

/-- The background and window pass (R850), in the rule's own arithmetic, and what compose writes (R852): row LY of FB and nothing
else. -/
def Obligations.BackgroundAndWindowPixels : Prop :=
  ∀ (s : State) (ly x : Nat), x < 160 →
    (s.ppu.lcdc.getLsbD 0 = false → s.bgPixel ly x = 0 ∧ s.bgIndex ly x = 0) ∧
    (s.ppu.lcdc.getLsbD 0 = true →
      let window := s.ppu.lcdc.getLsbD 5 = true ∧ ly ≥ s.ppu.wy.toNat ∧ x + 7 ≥ s.ppu.wx.toNat
      ∀ px py map : Nat,
        (window → px = x + 7 - s.ppu.wx.toNat ∧ py = ly - s.ppu.wy.toNat ∧
          map = (if s.ppu.lcdc.getLsbD 6 then 0x9C00 else 0x9800)) →
        (¬window → px = (x + s.ppu.scx.toNat) % 256 ∧ py = (ly + s.ppu.scy.toNat) % 256 ∧
          map = (if s.ppu.lcdc.getLsbD 3 then 0x9C00 else 0x9800)) →
        let t := s.mem.read (map + (py >>> 3) * 32 + (px >>> 3))
        let base : Int := if s.ppu.lcdc.getLsbD 4 then 0x8000 + t.toNat * 16 else 0x9000 + t.toInt * 16
        let lo := s.mem.read (base.toNat + (py &&& 7) * 2)
        let hi := s.mem.read (base.toNat + (py &&& 7) * 2 + 1)
        let raw := (hi.toNat / 2 ^ (7 - (px &&& 7)) % 2) * 2 + lo.toNat / 2 ^ (7 - (px &&& 7)) % 2
        (s.bgIndex ly x).toNat = raw ∧ (s.bgPixel ly x).toNat = s.ppu.bgp.toNat / 4 ^ raw % 4) ∧
    (s.ppu.lcdc.getLsbD 1 = false → s.pixel ly x = s.bgPixel ly x) ∧
    (∀ h : s.ppu.ly.toNat < 144, ∀ (j : Fin 144) (k : Fin 160),
      (s.compose.ppu.fb[j])[k] = if j.val = s.ppu.ly.toNat then s.pixel s.ppu.ly.toNat k.val else (s.ppu.fb[j])[k]) ∧
    s.compose = { s with ppu := { s.ppu with fb := s.compose.ppu.fb } }

/-- The sprite pass (R851): the model's pixel by pixel composition is the rule's loop over the forty entries of OAM, at most ten on a
line, an earlier entry before a later one. -/
def Obligations.SpritePixelsAreTheLoopOfTheRule : Prop :=
  ∀ (s : State) (ly x : Nat), x < 160 → s.ppu.lcdc.getLsbD 1 = true →
    s.pixel ly x = s.spriteRow ly (fun j => s.bgIndex ly j) (fun j => s.bgPixel ly j) x

/-! ### OAM DMA -/

/-- OAM DMA (R860, R861, R862): the write of the DMA register starts a transfer at once; an update of at least 160 cycles ends it with every
byte of OAM holding what the bus read at the source, and a shorter one copies one byte a cycle; no other byte changes. Under Fault a transfer
from page 0xFF raises at its fourth byte, 0xFF03, which no device accepts (R203). At every point of a transfer, DMA_ACC being 0 as between two updates, two updates are one
by their sum (where the first raises, so does the longer one, with its cycles more left in DMA_ACC), and one cycle copies the byte at DMA_SRC + DMA_INDEX,
the last one ending the transfer, or raises at its address. -/
def Obligations.DmaCopiesOneBytePerCycle : Prop :=
  (∀ s : State, s.dma.index ≤ 160 → (s.dma.active = true ↔ s.dma.index < 160) → s.dma.acc = 0 →
    (∀ (a b : Nat) (t : State), s.dmaUpdate a = .next t → s.dmaUpdate (a + b) = t.dmaUpdate b) ∧
    (∀ (a b : Nat) (t : State) (x : Word), s.dmaUpdate a = t.busFault x →
      s.dmaUpdate (a + b) = State.busFault { t with dma := { t.dma with acc := t.dma.acc + b } } x) ∧
    (s.dma.index < 160 →
      let src : Word := s.dma.src + BitVec.ofNat 16 s.dma.index
      (s.busRead src = none → s.dmaUpdate 1 = s.busFault src) ∧
      ∀ v, s.busRead src = some v → ∃ t, s.dmaUpdate 1 = .next t ∧
        t = { s with mem := t.mem, dma := { s.dma with index := s.dma.index + 1, active := decide (s.dma.index + 1 < 160) } } ∧
        t.mem.read (0xFE00 + s.dma.index) = v ∧ ∀ k, k ≠ 0xFE00 + s.dma.index → t.mem.read k = s.mem.read k)) ∧
  ∀ (s : State) (v : Byte),
    (s.busWrite 0xFF46 v = some { s with dma := { reg := v, active := true, src := BitVec.ofNat 16 (v.toNat * 256), index := 0, acc := 0 } }) ∧
    (∀ c, s.dma.active = false → s.dmaUpdate c = .next s) ∧
    ∀ c, s.dma = { reg := v, active := true, src := BitVec.ofNat 16 (v.toNat * 256), index := 0, acc := 0 } →
      (s.policy = .fault → v = 0xFF → 4 ≤ c → ∃ t : State, s.dmaUpdate c = t.busFault 0xFF03 ∧ t = { s with mem := t.mem, dma := t.dma } ∧
        t.dma.active = true ∧ t.dma.index = 3 ∧ (∀ i < 3, s.busRead (BitVec.ofNat 16 (0xFF00 + i)) = some (t.mem.read (0xFE00 + i))) ∧
        ∀ k, k < 0xFE00 ∨ 0xFE03 ≤ k → t.mem.read k = s.mem.read k) ∧
      (s.policy = .openBus ∨ v ≠ 0xFF ∨ c < 4 →
      let n := min c 160
      ∃ t, s.dmaUpdate c = .next t ∧ t = { s with mem := t.mem, dma := t.dma } ∧ t.dma.reg = v ∧ t.dma.src = s.dma.src ∧
        t.dma.index = n ∧ t.dma.acc = 0 ∧ (t.dma.active = true ↔ n < 160) ∧
        (∀ i < n, s.busRead (BitVec.ofNat 16 (v.toNat * 256 + i)) = some (t.mem.read (0xFE00 + i))) ∧
        ∀ k, k < 0xFE00 ∨ 0xFE00 + n ≤ k → t.mem.read k = s.mem.read k)

/-! ### Reset and the invariant -/

/-- Reset (R160, R900, R901, R902): the values of the table, for every cartridge and every value of the parameters. -/
def Obligations.ResetValues : Prop :=
  ∀ (c : Cart) (m : Memory) (p : UnmappedPolicy) (input : List (Nat × Buttons)),
    let s := State.powerOn c m p input
    s.regs = { a := 0x01, f := 0xB0, b := 0x00, c := 0x13, d := 0x00, e := 0xD8, h := 0x01, l := 0x4D, sp := 0xFFFE, pc := 0x0100 } ∧
    (s.ime = false ∧ s.imePending = false ∧ s.halted = false ∧ s.haltBug = false ∧ s.fault = none ∧ s.ie = 0 ∧ s.iflag = 0) ∧
    s.timer = { div := 0xAB, tima := 0, tma := 0, tac := 0xF8, divAcc := 0, timaAcc := 0 } ∧
    (s.ppu.lcdc = 0x91 ∧ s.ppu.stat = 0x06 ∧ s.ppu.scy = 0 ∧ s.ppu.scx = 0 ∧ s.ppu.ly = 0 ∧ s.ppu.lyc = 0 ∧ s.ppu.wy = 0 ∧
      s.ppu.wx = 0 ∧ s.ppu.bgp = 0xFC ∧ s.ppu.obp0 = 0xFF ∧ s.ppu.obp1 = 0xFF ∧ s.ppu.mode = .oamScan ∧ s.ppu.dots = 0 ∧
      s.ppu.coinc = true ∧ s.ppu.statLine = false ∧ s.ppu.lcdWasOff = false ∧
      ∀ (j : Fin 144) (k : Fin 160), (s.ppu.fb[j])[k] = 0) ∧
    s.dma = { reg := 0xFF, active := false, src := 0, index := 160, acc := 0 } ∧ s.joypad = { sel := 0, buttons := Buttons.released } ∧ s.joypad.read = 0xCF ∧
    s.serial = { sb := 0x00, sc := 0x7E } ∧
    s.cart = { c with ramg := 0, bank1 := 1, bank2 := 0, mode := 0 } ∧ s.frameAcc = 0 ∧ s.mem = m ∧ s.policy = p ∧ s.input = input

/-- The reset state satisfies the invariant. (Its empty cartridge slot is the model's choice, notes/assumptions/2.md.) -/
def Obligations.ResetSatisfiesTheInvariant : Prop := State.reset.Inv

/-- Every step keeps the invariant. -/
def Obligations.StepKeepsTheInvariant : Prop :=
  ∀ s t : State, s.Inv → step s = .next t → t.Inv

/-! ### The fetch under Fault -/

/-- A fetch the bus does not answer, which is one under UNMAPPED_POLICY = Fault (R21, R801, R803). At the opcode's address the step raises
BusRoutingError with nothing done, before any decoding. At the address of an operand byte, or of the byte after the prefix, the step raises
it with PC past the bytes already fetched and the effects of the opcode fetch done, the halt bug's among them (R702, R711). The snapshots due
are delivered first. -/
def Obligations.UnansweredFetchRaises : Prop :=
  ∀ s : State, s.fault = none →
    let u := s.applyInput
    u.halted = false →
    (¬u.Answers u.regs.pc → step s = u.busFault u.regs.pc) ∧
    ∀ (op : Byte) (ops : List Byte),
      let first : Word := if u.haltBug then u.regs.pc else u.regs.pc + 1
      let missing : Word := first + BitVec.ofNat 16 ops.length
      u.memRead u.regs.pc = some op → u.ReadsAt first ops → decode (op :: ops) = .error (.missingOperand op) → ¬u.Answers missing →
      step s = State.busFault { u with regs := { u.regs with pc := missing }, haltBug := false
                                       ime := u.ime || u.imePending, imePending := false, opAddr := u.regs.pc } missing
end

