-- ==== Sys2Proof/Laws/Memory.lean ====
section
/-! SUPPORT. Laws of the memory: what a read gives after a write, and that every write keeps the canonical form. -/

namespace Sys2Proof.Machine.Memory

theorem read_erase (m : Memory) (k j : Nat) :
    Memory.read (Memory.erase m k) j = if j = k then Memory.unlisted j else Memory.read m j := by
  induction m with
  | nil => simp [Memory.erase, Memory.read]
  | cons c m ih =>
    unfold Memory.erase at ih ⊢
    by_cases hc : c.1 = k
    · have : List.filter (fun c => c.1 != k) (c :: m) = List.filter (fun c => c.1 != k) m := by simp [hc]
      rw [this, ih]
      by_cases hj : j = k
      · simp [hj]
      · simp [hj, Memory.read, hc, Ne.symm hj]
    · have : List.filter (fun c => c.1 != k) (c :: m) = c :: List.filter (fun c => c.1 != k) m := by simp [hc]
      rw [this]
      simp only [Memory.read, ih]
      by_cases hj : c.1 = j
      · have : j ≠ k := fun h => hc (hj.trans h)
        simp [hj, this]
      · simp [hj]

theorem read_insert (m : Memory) (k j : Nat) (v : Byte) (h : ∀ c ∈ m, c.1 ≠ k) :
    Memory.read (Memory.insert m k v) j = if j = k then v else Memory.read m j := by
  induction m with
  | nil => by_cases hj : j = k <;> simp [Memory.insert, Memory.read, hj, @eq_comm _ k]
  | cons c m ih =>
    have hc : c.1 ≠ k := h c (by simp)
    unfold Memory.insert
    split
    · by_cases hj : j = k <;> simp [Memory.read, hj, @eq_comm _ k]
    · simp only [Memory.read, ih fun d hd => h d (by simp [hd])]
      by_cases hj : c.1 = j
      · have : j ≠ k := fun e => hc (hj.trans e)
        simp [hj, this]
      · simp [hj]

/-- The whole meaning of a write: cell `k` reads `v`, every other cell reads as before. -/
@[simp] theorem read_write (m : Memory) (k j : Nat) (v : Byte) :
    Memory.read (Memory.write m k v) j = if j = k then v else Memory.read m j := by
  unfold Memory.write
  split
  · next h => rw [read_erase]; by_cases hj : j = k <;> simp [hj, h]
  · rw [read_insert _ _ _ _ (by simp [Memory.erase]), read_erase]
    by_cases hj : j = k <;> simp [hj]

theorem read_write_same (m : Memory) (k : Nat) (v : Byte) : Memory.read (Memory.write m k v) k = v := by simp

theorem read_write_other (m : Memory) {k j : Nat} (v : Byte) (h : j ≠ k) :
    Memory.read (Memory.write m k v) j = Memory.read m j := by simp [h]

theorem mem_insert (m : Memory) (k : Nat) (v : Byte) (c : Host.Cell) (h : c ∈ Memory.insert m k v) :
    c = (k, v) ∨ c ∈ m := by
  induction m with
  | nil => simpa [Memory.insert] using h
  | cons d m ih =>
    unfold Memory.insert at h
    split at h
    · simpa using h
    · rcases List.mem_cons.mp h with h | h
      · simp [h]
      · rcases ih h with h | h <;> simp [h]

theorem pairwise_insert (m : Memory) (k : Nat) (v : Byte) (hm : m.Pairwise fun c d => c.1 < d.1)
    (hk : ∀ c ∈ m, c.1 ≠ k) : (Memory.insert m k v).Pairwise fun c d => c.1 < d.1 := by
  induction m with
  | nil => simp [Memory.insert]
  | cons d m ih =>
    rw [List.pairwise_cons] at hm
    unfold Memory.insert
    split
    · next h =>
      refine List.pairwise_cons.mpr ⟨fun c hc => ?_, List.pairwise_cons.mpr hm⟩
      rcases List.mem_cons.mp hc with rfl | hc
      · exact h
      · exact h.trans (hm.1 c hc)
    · next h =>
      refine List.pairwise_cons.mpr ⟨fun c hc => ?_, ih hm.2 fun c hc => hk c (by simp [hc])⟩
      rcases mem_insert m k v c hc with rfl | hc
      · have := hk d (by simp)
        show d.1 < k
        omega
      · exact hm.1 c hc

/-- A cell a write leaves listed is the written one or was listed. -/
theorem mem_write (m : Memory) (k : Nat) (v : Byte) (c : Host.Cell) (h : c ∈ Memory.write m k v) :
    c = (k, v) ∨ c ∈ m := by
  unfold Memory.write at h
  split at h
  · exact .inr (List.mem_filter.mp h).1
  · rcases mem_insert _ k v c h with h | h
    · exact .inl h
    · exact .inr (List.mem_filter.mp h).1

/-- A write keeps the canonical form. -/
theorem wf_write (m : Memory) (k : Nat) (v : Byte) (hm : m.wf) : (Memory.write m k v).wf := by
  have he : (m.erase k).Pairwise fun c d => c.1 < d.1 := hm.1.filter _
  unfold Memory.write
  split
  · exact ⟨he, fun c hc => hm.2 c (List.mem_filter.mp hc).1⟩
  · next h =>
    refine ⟨pairwise_insert _ _ _ he (by simp [Memory.erase]), fun c hc => ?_⟩
    rcases mem_insert _ k v c hc with rfl | hc
    · exact h
    · exact hm.2 c (List.mem_filter.mp hc).1

theorem wf_writeBytes (m : Memory) (k : Nat) (vs : List Byte) (hm : m.wf) : (Memory.writeBytes m k vs).wf := by
  induction vs generalizing m k with
  | nil => exact hm
  | cons v vs ih => exact ih _ _ (wf_write m k v hm)

theorem wf_nil : Memory.wf [] := by simp [Memory.wf]

/-- A read of a canonical memory that is not what an unlisted cell gives is listed. -/
theorem mem_of_read (m : Memory) (k : Nat) (h : m.read k ≠ unlisted k) : (k, m.read k) ∈ m := by
  induction m with
  | nil => exact absurd rfl h
  | cons c m ih =>
    unfold Memory.read at h ⊢
    split
    · next hc => subst hc; simp
    · next hc => simp only [hc, if_false] at h; simp [ih h]

theorem read_of_mem (m : Memory) (hm : m.Pairwise fun c d => c.1 < d.1) (c : Host.Cell) (h : c ∈ m) :
    m.read c.1 = c.2 := by
  induction m with
  | nil => simp at h
  | cons d m ih =>
    rw [List.pairwise_cons] at hm
    unfold Memory.read
    rcases List.mem_cons.mp h with rfl | h
    · simp
    · have := hm.1 c h
      rw [if_neg (by omega), ih hm.2 h]

end Sys2Proof.Machine.Memory
end

