-- ==== Sys2Proof/Laws/State.lean ====
section
/-! SUPPORT. One lemma per field per update of the registers, so that no later proof unfolds a record update, and what the bus
functions make of such an update. -/

namespace Sys2Proof.Machine.State

/-! ### setReg: everything but the registers -/

@[simp] theorem ime_setReg (s : State) (r : Reg8) (v : Byte) : (s.setReg r v).ime = s.ime := by cases r <;> rfl
@[simp] theorem imePending_setReg (s : State) (r : Reg8) (v : Byte) : (s.setReg r v).imePending = s.imePending := by cases r <;> rfl
@[simp] theorem halted_setReg (s : State) (r : Reg8) (v : Byte) : (s.setReg r v).halted = s.halted := by cases r <;> rfl
@[simp] theorem haltBug_setReg (s : State) (r : Reg8) (v : Byte) : (s.setReg r v).haltBug = s.haltBug := by cases r <;> rfl
@[simp] theorem fault_setReg (s : State) (r : Reg8) (v : Byte) : (s.setReg r v).fault = s.fault := by cases r <;> rfl
@[simp] theorem ie_setReg (s : State) (r : Reg8) (v : Byte) : (s.setReg r v).ie = s.ie := by cases r <;> rfl
@[simp] theorem iflag_setReg (s : State) (r : Reg8) (v : Byte) : (s.setReg r v).iflag = s.iflag := by cases r <;> rfl
@[simp] theorem timer_setReg (s : State) (r : Reg8) (v : Byte) : (s.setReg r v).timer = s.timer := by cases r <;> rfl
@[simp] theorem ppu_setReg (s : State) (r : Reg8) (v : Byte) : (s.setReg r v).ppu = s.ppu := by cases r <;> rfl
@[simp] theorem dma_setReg (s : State) (r : Reg8) (v : Byte) : (s.setReg r v).dma = s.dma := by cases r <;> rfl
@[simp] theorem joypad_setReg (s : State) (r : Reg8) (v : Byte) : (s.setReg r v).joypad = s.joypad := by cases r <;> rfl
@[simp] theorem serial_setReg (s : State) (r : Reg8) (v : Byte) : (s.setReg r v).serial = s.serial := by cases r <;> rfl
@[simp] theorem cart_setReg (s : State) (r : Reg8) (v : Byte) : (s.setReg r v).cart = s.cart := by cases r <;> rfl
@[simp] theorem mem_setReg (s : State) (r : Reg8) (v : Byte) : (s.setReg r v).mem = s.mem := by cases r <;> rfl
@[simp] theorem frameAcc_setReg (s : State) (r : Reg8) (v : Byte) : (s.setReg r v).frameAcc = s.frameAcc := by cases r <;> rfl
@[simp] theorem policy_setReg (s : State) (r : Reg8) (v : Byte) : (s.setReg r v).policy = s.policy := by cases r <;> rfl
@[simp] theorem input_setReg (s : State) (r : Reg8) (v : Byte) : (s.setReg r v).input = s.input := by cases r <;> rfl
@[simp] theorem iter_setReg (s : State) (r : Reg8) (v : Byte) : (s.setReg r v).iter = s.iter := by cases r <;> rfl
@[simp] theorem presented_setReg (s : State) (r : Reg8) (v : Byte) : (s.setReg r v).presented = s.presented := by cases r <;> rfl
@[simp] theorem opAddr_setReg (s : State) (r : Reg8) (v : Byte) : (s.setReg r v).opAddr = s.opAddr := by cases r <;> rfl
@[simp] theorem cycles_setReg (s : State) (r : Reg8) (v : Byte) : (s.setReg r v).cycles = s.cycles := by cases r <;> rfl
@[simp] theorem blocked_setReg (s : State) (r : Reg8) (v : Byte) (a : Word) : (s.setReg r v).blocked a = s.blocked a := by cases r <;> rfl
@[simp] theorem cellOf_setReg (s : State) (r : Reg8) (v : Byte) (a : Nat) : (s.setReg r v).cellOf a = s.cellOf a := by cases r <;> rfl
@[simp] theorem busRead_setReg (s : State) (r : Reg8) (v : Byte) (a : Word) : (s.setReg r v).busRead a = s.busRead a := by cases r <;> rfl
@[simp] theorem memRead_setReg (s : State) (r : Reg8) (v : Byte) (a : Word) : (s.setReg r v).memRead a = s.memRead a := by cases r <;> rfl

/-! ### setReg16: everything but the registers -/

@[simp] theorem ime_setReg16 (s : State) (r : Reg16) (v : Word) : (s.setReg16 r v).ime = s.ime := by cases r <;> rfl
@[simp] theorem imePending_setReg16 (s : State) (r : Reg16) (v : Word) : (s.setReg16 r v).imePending = s.imePending := by cases r <;> rfl
@[simp] theorem halted_setReg16 (s : State) (r : Reg16) (v : Word) : (s.setReg16 r v).halted = s.halted := by cases r <;> rfl
@[simp] theorem haltBug_setReg16 (s : State) (r : Reg16) (v : Word) : (s.setReg16 r v).haltBug = s.haltBug := by cases r <;> rfl
@[simp] theorem fault_setReg16 (s : State) (r : Reg16) (v : Word) : (s.setReg16 r v).fault = s.fault := by cases r <;> rfl
@[simp] theorem ie_setReg16 (s : State) (r : Reg16) (v : Word) : (s.setReg16 r v).ie = s.ie := by cases r <;> rfl
@[simp] theorem iflag_setReg16 (s : State) (r : Reg16) (v : Word) : (s.setReg16 r v).iflag = s.iflag := by cases r <;> rfl
@[simp] theorem timer_setReg16 (s : State) (r : Reg16) (v : Word) : (s.setReg16 r v).timer = s.timer := by cases r <;> rfl
@[simp] theorem ppu_setReg16 (s : State) (r : Reg16) (v : Word) : (s.setReg16 r v).ppu = s.ppu := by cases r <;> rfl
@[simp] theorem dma_setReg16 (s : State) (r : Reg16) (v : Word) : (s.setReg16 r v).dma = s.dma := by cases r <;> rfl
@[simp] theorem joypad_setReg16 (s : State) (r : Reg16) (v : Word) : (s.setReg16 r v).joypad = s.joypad := by cases r <;> rfl
@[simp] theorem serial_setReg16 (s : State) (r : Reg16) (v : Word) : (s.setReg16 r v).serial = s.serial := by cases r <;> rfl
@[simp] theorem cart_setReg16 (s : State) (r : Reg16) (v : Word) : (s.setReg16 r v).cart = s.cart := by cases r <;> rfl
@[simp] theorem mem_setReg16 (s : State) (r : Reg16) (v : Word) : (s.setReg16 r v).mem = s.mem := by cases r <;> rfl
@[simp] theorem frameAcc_setReg16 (s : State) (r : Reg16) (v : Word) : (s.setReg16 r v).frameAcc = s.frameAcc := by cases r <;> rfl
@[simp] theorem policy_setReg16 (s : State) (r : Reg16) (v : Word) : (s.setReg16 r v).policy = s.policy := by cases r <;> rfl
@[simp] theorem input_setReg16 (s : State) (r : Reg16) (v : Word) : (s.setReg16 r v).input = s.input := by cases r <;> rfl
@[simp] theorem iter_setReg16 (s : State) (r : Reg16) (v : Word) : (s.setReg16 r v).iter = s.iter := by cases r <;> rfl
@[simp] theorem presented_setReg16 (s : State) (r : Reg16) (v : Word) : (s.setReg16 r v).presented = s.presented := by cases r <;> rfl
@[simp] theorem opAddr_setReg16 (s : State) (r : Reg16) (v : Word) : (s.setReg16 r v).opAddr = s.opAddr := by cases r <;> rfl
@[simp] theorem cycles_setReg16 (s : State) (r : Reg16) (v : Word) : (s.setReg16 r v).cycles = s.cycles := by cases r <;> rfl
@[simp] theorem blocked_setReg16 (s : State) (r : Reg16) (v : Word) (a : Word) : (s.setReg16 r v).blocked a = s.blocked a := by cases r <;> rfl
@[simp] theorem cellOf_setReg16 (s : State) (r : Reg16) (v : Word) (a : Nat) : (s.setReg16 r v).cellOf a = s.cellOf a := by cases r <;> rfl
@[simp] theorem busRead_setReg16 (s : State) (r : Reg16) (v : Word) (a : Word) : (s.setReg16 r v).busRead a = s.busRead a := by cases r <;> rfl
@[simp] theorem memRead_setReg16 (s : State) (r : Reg16) (v : Word) (a : Word) : (s.setReg16 r v).memRead a = s.memRead a := by cases r <;> rfl

/-! ### setSp: everything but the registers -/

@[simp] theorem ime_setSp (s : State) (v : Word) : (s.setSp v).ime = s.ime := rfl
@[simp] theorem imePending_setSp (s : State) (v : Word) : (s.setSp v).imePending = s.imePending := rfl
@[simp] theorem halted_setSp (s : State) (v : Word) : (s.setSp v).halted = s.halted := rfl
@[simp] theorem haltBug_setSp (s : State) (v : Word) : (s.setSp v).haltBug = s.haltBug := rfl
@[simp] theorem fault_setSp (s : State) (v : Word) : (s.setSp v).fault = s.fault := rfl
@[simp] theorem ie_setSp (s : State) (v : Word) : (s.setSp v).ie = s.ie := rfl
@[simp] theorem iflag_setSp (s : State) (v : Word) : (s.setSp v).iflag = s.iflag := rfl
@[simp] theorem timer_setSp (s : State) (v : Word) : (s.setSp v).timer = s.timer := rfl
@[simp] theorem ppu_setSp (s : State) (v : Word) : (s.setSp v).ppu = s.ppu := rfl
@[simp] theorem dma_setSp (s : State) (v : Word) : (s.setSp v).dma = s.dma := rfl
@[simp] theorem joypad_setSp (s : State) (v : Word) : (s.setSp v).joypad = s.joypad := rfl
@[simp] theorem serial_setSp (s : State) (v : Word) : (s.setSp v).serial = s.serial := rfl
@[simp] theorem cart_setSp (s : State) (v : Word) : (s.setSp v).cart = s.cart := rfl
@[simp] theorem mem_setSp (s : State) (v : Word) : (s.setSp v).mem = s.mem := rfl
@[simp] theorem frameAcc_setSp (s : State) (v : Word) : (s.setSp v).frameAcc = s.frameAcc := rfl
@[simp] theorem policy_setSp (s : State) (v : Word) : (s.setSp v).policy = s.policy := rfl
@[simp] theorem input_setSp (s : State) (v : Word) : (s.setSp v).input = s.input := rfl
@[simp] theorem iter_setSp (s : State) (v : Word) : (s.setSp v).iter = s.iter := rfl
@[simp] theorem presented_setSp (s : State) (v : Word) : (s.setSp v).presented = s.presented := rfl
@[simp] theorem opAddr_setSp (s : State) (v : Word) : (s.setSp v).opAddr = s.opAddr := rfl
@[simp] theorem cycles_setSp (s : State) (v : Word) : (s.setSp v).cycles = s.cycles := rfl
@[simp] theorem blocked_setSp (s : State) (v : Word) (a : Word) : (s.setSp v).blocked a = s.blocked a := rfl
@[simp] theorem cellOf_setSp (s : State) (v : Word) (a : Nat) : (s.setSp v).cellOf a = s.cellOf a := rfl
@[simp] theorem busRead_setSp (s : State) (v : Word) (a : Word) : (s.setSp v).busRead a = s.busRead a := rfl
@[simp] theorem memRead_setSp (s : State) (v : Word) (a : Word) : (s.setSp v).memRead a = s.memRead a := rfl

/-! ### setPc: everything but the registers -/

@[simp] theorem ime_setPc (s : State) (v : Word) : (s.setPc v).ime = s.ime := rfl
@[simp] theorem imePending_setPc (s : State) (v : Word) : (s.setPc v).imePending = s.imePending := rfl
@[simp] theorem halted_setPc (s : State) (v : Word) : (s.setPc v).halted = s.halted := rfl
@[simp] theorem haltBug_setPc (s : State) (v : Word) : (s.setPc v).haltBug = s.haltBug := rfl
@[simp] theorem fault_setPc (s : State) (v : Word) : (s.setPc v).fault = s.fault := rfl
@[simp] theorem ie_setPc (s : State) (v : Word) : (s.setPc v).ie = s.ie := rfl
@[simp] theorem iflag_setPc (s : State) (v : Word) : (s.setPc v).iflag = s.iflag := rfl
@[simp] theorem timer_setPc (s : State) (v : Word) : (s.setPc v).timer = s.timer := rfl
@[simp] theorem ppu_setPc (s : State) (v : Word) : (s.setPc v).ppu = s.ppu := rfl
@[simp] theorem dma_setPc (s : State) (v : Word) : (s.setPc v).dma = s.dma := rfl
@[simp] theorem joypad_setPc (s : State) (v : Word) : (s.setPc v).joypad = s.joypad := rfl
@[simp] theorem serial_setPc (s : State) (v : Word) : (s.setPc v).serial = s.serial := rfl
@[simp] theorem cart_setPc (s : State) (v : Word) : (s.setPc v).cart = s.cart := rfl
@[simp] theorem mem_setPc (s : State) (v : Word) : (s.setPc v).mem = s.mem := rfl
@[simp] theorem frameAcc_setPc (s : State) (v : Word) : (s.setPc v).frameAcc = s.frameAcc := rfl
@[simp] theorem policy_setPc (s : State) (v : Word) : (s.setPc v).policy = s.policy := rfl
@[simp] theorem input_setPc (s : State) (v : Word) : (s.setPc v).input = s.input := rfl
@[simp] theorem iter_setPc (s : State) (v : Word) : (s.setPc v).iter = s.iter := rfl
@[simp] theorem presented_setPc (s : State) (v : Word) : (s.setPc v).presented = s.presented := rfl
@[simp] theorem opAddr_setPc (s : State) (v : Word) : (s.setPc v).opAddr = s.opAddr := rfl
@[simp] theorem cycles_setPc (s : State) (v : Word) : (s.setPc v).cycles = s.cycles := rfl
@[simp] theorem blocked_setPc (s : State) (v : Word) (a : Word) : (s.setPc v).blocked a = s.blocked a := rfl
@[simp] theorem cellOf_setPc (s : State) (v : Word) (a : Nat) : (s.setPc v).cellOf a = s.cellOf a := rfl
@[simp] theorem busRead_setPc (s : State) (v : Word) (a : Word) : (s.setPc v).busRead a = s.busRead a := rfl
@[simp] theorem memRead_setPc (s : State) (v : Word) (a : Word) : (s.setPc v).memRead a = s.memRead a := rfl

/-! ### setF: everything but the registers -/

@[simp] theorem ime_setF (s : State) (v : Byte) : (s.setF v).ime = s.ime := rfl
@[simp] theorem imePending_setF (s : State) (v : Byte) : (s.setF v).imePending = s.imePending := rfl
@[simp] theorem halted_setF (s : State) (v : Byte) : (s.setF v).halted = s.halted := rfl
@[simp] theorem haltBug_setF (s : State) (v : Byte) : (s.setF v).haltBug = s.haltBug := rfl
@[simp] theorem fault_setF (s : State) (v : Byte) : (s.setF v).fault = s.fault := rfl
@[simp] theorem ie_setF (s : State) (v : Byte) : (s.setF v).ie = s.ie := rfl
@[simp] theorem iflag_setF (s : State) (v : Byte) : (s.setF v).iflag = s.iflag := rfl
@[simp] theorem timer_setF (s : State) (v : Byte) : (s.setF v).timer = s.timer := rfl
@[simp] theorem ppu_setF (s : State) (v : Byte) : (s.setF v).ppu = s.ppu := rfl
@[simp] theorem dma_setF (s : State) (v : Byte) : (s.setF v).dma = s.dma := rfl
@[simp] theorem joypad_setF (s : State) (v : Byte) : (s.setF v).joypad = s.joypad := rfl
@[simp] theorem serial_setF (s : State) (v : Byte) : (s.setF v).serial = s.serial := rfl
@[simp] theorem cart_setF (s : State) (v : Byte) : (s.setF v).cart = s.cart := rfl
@[simp] theorem mem_setF (s : State) (v : Byte) : (s.setF v).mem = s.mem := rfl
@[simp] theorem frameAcc_setF (s : State) (v : Byte) : (s.setF v).frameAcc = s.frameAcc := rfl
@[simp] theorem policy_setF (s : State) (v : Byte) : (s.setF v).policy = s.policy := rfl
@[simp] theorem input_setF (s : State) (v : Byte) : (s.setF v).input = s.input := rfl
@[simp] theorem iter_setF (s : State) (v : Byte) : (s.setF v).iter = s.iter := rfl
@[simp] theorem presented_setF (s : State) (v : Byte) : (s.setF v).presented = s.presented := rfl
@[simp] theorem opAddr_setF (s : State) (v : Byte) : (s.setF v).opAddr = s.opAddr := rfl
@[simp] theorem cycles_setF (s : State) (v : Byte) : (s.setF v).cycles = s.cycles := rfl
@[simp] theorem blocked_setF (s : State) (v : Byte) (a : Word) : (s.setF v).blocked a = s.blocked a := rfl
@[simp] theorem cellOf_setF (s : State) (v : Byte) (a : Nat) : (s.setF v).cellOf a = s.cellOf a := rfl
@[simp] theorem busRead_setF (s : State) (v : Byte) (a : Word) : (s.setF v).busRead a = s.busRead a := rfl
@[simp] theorem memRead_setF (s : State) (v : Byte) (a : Word) : (s.setF v).memRead a = s.memRead a := rfl

/-! ### setFlags: everything but the registers -/

@[simp] theorem ime_setFlags (s : State) (v : Flags) : (s.setFlags v).ime = s.ime := rfl
@[simp] theorem imePending_setFlags (s : State) (v : Flags) : (s.setFlags v).imePending = s.imePending := rfl
@[simp] theorem halted_setFlags (s : State) (v : Flags) : (s.setFlags v).halted = s.halted := rfl
@[simp] theorem haltBug_setFlags (s : State) (v : Flags) : (s.setFlags v).haltBug = s.haltBug := rfl
@[simp] theorem fault_setFlags (s : State) (v : Flags) : (s.setFlags v).fault = s.fault := rfl
@[simp] theorem ie_setFlags (s : State) (v : Flags) : (s.setFlags v).ie = s.ie := rfl
@[simp] theorem iflag_setFlags (s : State) (v : Flags) : (s.setFlags v).iflag = s.iflag := rfl
@[simp] theorem timer_setFlags (s : State) (v : Flags) : (s.setFlags v).timer = s.timer := rfl
@[simp] theorem ppu_setFlags (s : State) (v : Flags) : (s.setFlags v).ppu = s.ppu := rfl
@[simp] theorem dma_setFlags (s : State) (v : Flags) : (s.setFlags v).dma = s.dma := rfl
@[simp] theorem joypad_setFlags (s : State) (v : Flags) : (s.setFlags v).joypad = s.joypad := rfl
@[simp] theorem serial_setFlags (s : State) (v : Flags) : (s.setFlags v).serial = s.serial := rfl
@[simp] theorem cart_setFlags (s : State) (v : Flags) : (s.setFlags v).cart = s.cart := rfl
@[simp] theorem mem_setFlags (s : State) (v : Flags) : (s.setFlags v).mem = s.mem := rfl
@[simp] theorem frameAcc_setFlags (s : State) (v : Flags) : (s.setFlags v).frameAcc = s.frameAcc := rfl
@[simp] theorem policy_setFlags (s : State) (v : Flags) : (s.setFlags v).policy = s.policy := rfl
@[simp] theorem input_setFlags (s : State) (v : Flags) : (s.setFlags v).input = s.input := rfl
@[simp] theorem iter_setFlags (s : State) (v : Flags) : (s.setFlags v).iter = s.iter := rfl
@[simp] theorem presented_setFlags (s : State) (v : Flags) : (s.setFlags v).presented = s.presented := rfl
@[simp] theorem opAddr_setFlags (s : State) (v : Flags) : (s.setFlags v).opAddr = s.opAddr := rfl
@[simp] theorem cycles_setFlags (s : State) (v : Flags) : (s.setFlags v).cycles = s.cycles := rfl
@[simp] theorem blocked_setFlags (s : State) (v : Flags) (a : Word) : (s.setFlags v).blocked a = s.blocked a := rfl
@[simp] theorem cellOf_setFlags (s : State) (v : Flags) (a : Nat) : (s.setFlags v).cellOf a = s.cellOf a := rfl
@[simp] theorem busRead_setFlags (s : State) (v : Flags) (a : Word) : (s.setFlags v).busRead a = s.busRead a := rfl
@[simp] theorem memRead_setFlags (s : State) (v : Flags) (a : Word) : (s.setFlags v).memRead a = s.memRead a := rfl

/-! ### The registers -/

@[simp] theorem reg_setReg (s : State) (r r2 : Reg8) (v : Byte) : (s.setReg r v).reg r2 = if r2 = r then v else s.reg r2 := by
  cases r <;> cases r2 <;> rfl
@[simp] theorem reg_setSp (s : State) (r : Reg8) (v : Word) : (s.setSp v).reg r = s.reg r := by cases r <;> rfl
@[simp] theorem reg_setPc (s : State) (r : Reg8) (v : Word) : (s.setPc v).reg r = s.reg r := by cases r <;> rfl
@[simp] theorem reg_setF (s : State) (r : Reg8) (v : Byte) : (s.setF v).reg r = s.reg r := by cases r <;> rfl
@[simp] theorem reg_setFlags (s : State) (r : Reg8) (v : Flags) : (s.setFlags v).reg r = s.reg r := by cases r <;> rfl
@[simp] theorem reg16_setReg16 (s : State) (r : Reg16) (v : Word) : (s.setReg16 r v).reg16 r = v := by
  cases r <;> simp [setReg16, reg16, setSp]
@[simp] theorem reg16_setPc (s : State) (r : Reg16) (v : Word) : (s.setPc v).reg16 r = s.reg16 r := by cases r <;> rfl
@[simp] theorem reg16_setF (s : State) (r : Reg16) (v : Byte) : (s.setF v).reg16 r = s.reg16 r := by cases r <;> rfl
@[simp] theorem reg16_setFlags (s : State) (r : Reg16) (v : Flags) : (s.setFlags v).reg16 r = s.reg16 r := by cases r <;> rfl

@[simp] theorem sp_setReg (s : State) (r : Reg8) (v : Byte) : (s.setReg r v).regs.sp = s.regs.sp := by cases r <;> rfl
@[simp] theorem pc_setReg (s : State) (r : Reg8) (v : Byte) : (s.setReg r v).regs.pc = s.regs.pc := by cases r <;> rfl
@[simp] theorem f_setReg (s : State) (r : Reg8) (v : Byte) : (s.setReg r v).regs.f = s.regs.f := by cases r <;> rfl
@[simp] theorem pc_setReg16 (s : State) (r : Reg16) (v : Word) : (s.setReg16 r v).regs.pc = s.regs.pc := by cases r <;> rfl
@[simp] theorem f_setReg16 (s : State) (r : Reg16) (v : Word) : (s.setReg16 r v).regs.f = s.regs.f := by cases r <;> rfl
@[simp] theorem sp_setSp (s : State) (v : Word) : (s.setSp v).regs.sp = v := rfl
@[simp] theorem pc_setSp (s : State) (v : Word) : (s.setSp v).regs.pc = s.regs.pc := rfl
@[simp] theorem f_setSp (s : State) (v : Word) : (s.setSp v).regs.f = s.regs.f := rfl
@[simp] theorem sp_setPc (s : State) (v : Word) : (s.setPc v).regs.sp = s.regs.sp := rfl
@[simp] theorem pc_setPc (s : State) (v : Word) : (s.setPc v).regs.pc = v := rfl
@[simp] theorem f_setPc (s : State) (v : Word) : (s.setPc v).regs.f = s.regs.f := rfl
@[simp] theorem sp_setF (s : State) (v : Byte) : (s.setF v).regs.sp = s.regs.sp := rfl
@[simp] theorem pc_setF (s : State) (v : Byte) : (s.setF v).regs.pc = s.regs.pc := rfl
@[simp] theorem f_setF (s : State) (v : Byte) : (s.setF v).regs.f = v &&& 0xF0 := rfl
@[simp] theorem sp_setFlags (s : State) (v : Flags) : (s.setFlags v).regs.sp = s.regs.sp := rfl
@[simp] theorem pc_setFlags (s : State) (v : Flags) : (s.setFlags v).regs.pc = s.regs.pc := rfl

/-- Every write of F leaves its low nibble 0 (R102). -/
theorem f_low_setF (s : State) (v : Byte) : (s.setF v).regs.f &&& 0x0F = 0 := by
  simp only [f_setF]; rw [BitVec.and_assoc]; simp

theorem f_low_setFlags (s : State) (v : Flags) : (s.setFlags v).regs.f &&& 0x0F = 0 := f_low_setF s _

theorem flagByte_bits (z n h c : Bool) : let b := flagByte ⟨z, n, h, c⟩ &&& 0xF0
    b.getLsbD 7 = z ∧ b.getLsbD 6 = n ∧ b.getLsbD 5 = h ∧ b.getLsbD 4 = c := by decide +revert

/-- The four flags an update of the flags leaves (R104). -/
@[simp] theorem flagZ_setFlags (s : State) (v : Flags) : (s.setFlags v).flagZ = v.z := (flagByte_bits _ _ _ _).1
@[simp] theorem flagN_setFlags (s : State) (v : Flags) : (s.setFlags v).flagN = v.n := (flagByte_bits _ _ _ _).2.1
@[simp] theorem flagH_setFlags (s : State) (v : Flags) : (s.setFlags v).flagH = v.h := (flagByte_bits _ _ _ _).2.2.1
@[simp] theorem flagC_setFlags (s : State) (v : Flags) : (s.setFlags v).flagC = v.c := (flagByte_bits _ _ _ _).2.2.2

/-! ### Requests -/

@[simp] theorem regs_request (s : State) (i : Source) : (s.request i).regs = s.regs := rfl
@[simp] theorem ppu_request (s : State) (i : Source) : (s.request i).ppu = s.ppu := rfl
@[simp] theorem timer_request (s : State) (i : Source) : (s.request i).timer = s.timer := rfl
@[simp] theorem mem_request (s : State) (i : Source) : (s.request i).mem = s.mem := rfl
@[simp] theorem iflag_request (s : State) (i : Source) : (s.request i).iflag = s.iflag ||| i.mask := rfl

end Sys2Proof.Machine.State
end

