-- ==== Sys2Proof/Laws/Ops.lean ====
section
/-! SUPPORT. The laws of the shared operations: what the CPU's accesses, the stack operations and the unit updates can do, said once. -/

namespace Sys2Proof.Machine

/-! ### The bus -/

/-- An unblocked read is answered exactly when an unblocked write is. -/
theorem busWrite_isSome (s : State) (a : Word) (v : Byte) : (s.busWrite a v).isSome = (s.busRead a).isSome := by
  unfold State.busWrite State.busRead
  cases deviceAt a.toNat <;> cases s.policy <;> rfl

/-- A write of the CPU is answered exactly when its read is. -/
theorem memWrite_isSome (s : State) (a : Word) (v : Byte) : (s.memWrite a v).isSome = (s.memRead a).isSome := by
  unfold State.memWrite State.memRead
  split
  · rfl
  · exact busWrite_isSome s a v

theorem memRead_none (s : State) (a : Word) :
    s.memRead a = none ↔ s.blocked a = false ∧ deviceAt a.toNat = none ∧ s.policy = .fault := by
  unfold State.memRead State.busRead
  cases s.blocked a <;> cases deviceAt a.toNat <;> cases s.policy <;> simp

/-- Under OpenBus every read is answered (R203). -/
theorem memRead_openBus (s : State) (a : Word) (h : s.policy = .openBus) : ∃ v, s.memRead a = some v := by
  cases hm : s.memRead a with
  | some v => exact ⟨v, rfl⟩
  | none => rw [memRead_none, h] at hm; simp at hm

theorem memWrite_none (s : State) (a : Word) (v : Byte) :
    s.memWrite a v = none ↔ s.blocked a = false ∧ deviceAt a.toNat = none ∧ s.policy = .fault := by
  rw [← memRead_none]
  have := memWrite_isSome s a v
  cases hw : s.memWrite a v <;> cases hr : s.memRead a <;> simp_all

/-- Everything a write of the CPU can do: nothing, where it is blocked or unmapped, or the write port of the one device that
accepts the address (R200, R231). -/
theorem memWrite_cases {s t : State} {a : Word} {v : Byte} (h : s.memWrite a v = some t) :
    t = s ∨ ∃ d, deviceAt a.toNat = some d ∧ s.blocked a = false ∧ t = s.deviceWrite d a.toNat v := by
  unfold State.memWrite State.busWrite at h
  cases hb : s.blocked a with
  | true => rw [hb] at h; simp at h; exact .inl h.symm
  | false =>
    rw [hb] at h
    cases hd : deviceAt a.toNat with
    | some d => rw [hd] at h; simp at h; exact .inr ⟨d, rfl, rfl, h.symm⟩
    | none =>
      rw [hd] at h
      cases hp : s.policy with
      | openBus => rw [hp] at h; simp at h; exact .inl h.symm
      | fault => rw [hp] at h; simp at h

/-- The device of an address accepts it (R200). -/
theorem accepts_of_deviceAt {a : Nat} {d : Device} (h : deviceAt a = some d) : d.accepts a = true := by
  unfold deviceAt at h
  simpa using List.find?_some h

/-- A write of a cell changes memory only. -/
theorem writeCell_eq (s : State) (a : Nat) (v : Byte) : s.writeCell a v = { s with mem := (s.writeCell a v).mem } := by
  unfold State.writeCell
  split <;> rfl

/-- Evaluating the STAT line changes COINC, STAT_LINE and IF only (R844). -/
theorem evalStat_eq (s : State) :
    s.evalStat = { s with iflag := s.evalStat.iflag
                          ppu := { s.ppu with coinc := s.evalStat.ppu.coinc, statLine := s.evalStat.ppu.statLine } } := rfl

/-- IF after an evaluation: as before, or with the STAT bit. -/
theorem evalStat_iflag (s : State) : s.evalStat.iflag = s.iflag ∨ s.evalStat.iflag = s.iflag ||| 0x02 := by
  unfold State.evalStat
  dsimp only
  split
  · exact .inr rfl
  · exact .inl rfl

/-- A write of a PPU register changes the PPU and IF only. -/
theorem writePpuRegister_eq (s : State) (a : Nat) (v : Byte) :
    s.writePpuRegister a v = { s with iflag := (s.writePpuRegister a v).iflag, ppu := (s.writePpuRegister a v).ppu } := by
  unfold State.writePpuRegister State.evalStatIfOn
  split <;> first
    | rfl
    | (split <;> rfl)

/-- A write port changes no register, nothing of the CPU's control state, and nothing outside the devices and memory. -/
theorem deviceWrite_eq (s : State) (d : Device) (a : Nat) (v : Byte) :
    let t := s.deviceWrite d a v
    t = { s with ie := t.ie, iflag := t.iflag, timer := t.timer, ppu := t.ppu, dma := t.dma, joypad := t.joypad
                 serial := t.serial, cart := t.cart, mem := t.mem } := by
  cases d <;> simp only [State.deviceWrite]
  · split
    · rfl
    · rw [writeCell_eq]
  · split
    · rw [writeCell_eq]
    · split
      · rfl
      · rw [writePpuRegister_eq]
  · rw [writeCell_eq]
  · split <;> rfl

/-- What a write of the CPU leaves: the registers, the control state, and everything outside the devices and memory. -/
theorem memWrite_eq {s t : State} {a : Word} {v : Byte} (h : s.memWrite a v = some t) :
    t = { s with ie := t.ie, iflag := t.iflag, timer := t.timer, ppu := t.ppu, dma := t.dma, joypad := t.joypad
                 serial := t.serial, cart := t.cart, mem := t.mem } := by
  obtain rfl | ⟨d, -, -, rfl⟩ := memWrite_cases h
  · rfl
  · exact deviceWrite_eq s d a.toNat v

theorem memWrite_regs {s t : State} {a : Word} {v : Byte} (h : s.memWrite a v = some t) : t.regs = s.regs := by
  rw [memWrite_eq h]

theorem memWrite_policy {s t : State} {a : Word} {v : Byte} (h : s.memWrite a v = some t) : t.policy = s.policy := by
  rw [memWrite_eq h]

/-! ### Reading, writing, the stack -/

theorem readThen_some {s : State} {a : Word} {v : Byte} (k : Byte → Result) (h : s.memRead a = some v) : s.readThen a k = k v := by
  simp [State.readThen, h]

theorem readThen_none {s : State} {a : Word} (k : Byte → Result) (h : s.memRead a = none) :
    s.readThen a k = s.raise (.busRoutingError a) := by
  simp [State.readThen, h]

theorem writeThen_some {s t : State} {a : Word} {v : Byte} (k : State → Result) (h : s.memWrite a v = some t) :
    s.writeThen a v k = k t := by
  simp [State.writeThen, h]

theorem writeThen_none {s : State} {a : Word} {v : Byte} (k : State → Result) (h : s.memWrite a v = none) :
    s.writeThen a v k = s.raise (.busRoutingError a) := by
  simp [State.writeThen, h]

/-- A read that ends in a next state was answered. -/
theorem readThen_next {s t : State} {a : Word} {k : Byte → Result} (h : s.readThen a k = .next t) :
    ∃ v, s.memRead a = some v ∧ k v = .next t := by
  unfold State.readThen at h
  split at h
  · next v hv => exact ⟨v, hv, h⟩
  · simp [State.raise] at h

theorem writeThen_next {s t : State} {a : Word} {v : Byte} {k : State → Result} (h : s.writeThen a v k = .next t) :
    ∃ u, s.memWrite a v = some u ∧ k u = .next t := by
  unfold State.writeThen at h
  split at h
  · next u hu => exact ⟨u, hu, h⟩
  · simp [State.raise] at h

@[simp] theorem andThen_of_next (s : State) (k : State → Result) : andThen (.next s) k = k s := rfl

/-- A fault ends what would follow (R801). -/
@[simp] theorem andThen_of_fault (f : Fault) (k : State → Result) : andThen (.fault f) k = .fault f := rfl

theorem andThen_next {o : Result} {t : State} {k : State → Result} (h : andThen o k = .next t) :
    ∃ u, o = .next u ∧ k u = .next t := by
  unfold andThen at h
  split at h
  · next u => exact ⟨u, rfl, h⟩
  · simp at h
  · simp at h

/-- A push that ends in a next state made its two writes, the high byte first. -/
theorem push16Then_next {s t : State} {v : Word} {k : State → Result} (h : s.push16Then v k = .next t) :
    ∃ u w, (s.setSp (s.regs.sp - 1)).memWrite (s.regs.sp - 1) (hiByte v) = some u ∧
      (u.setSp (s.regs.sp - 2)).memWrite (s.regs.sp - 2) (loByte v) = some w ∧ k w = .next t := by
  unfold State.push16Then at h
  obtain ⟨u, hu, h⟩ := writeThen_next h
  obtain ⟨w, hw, h⟩ := writeThen_next h
  have hs : u.regs.sp - 1 = s.regs.sp - 2 := by
    rw [memWrite_regs hu]
    show s.regs.sp - 1 - 1 = s.regs.sp - 2
    bv_omega
  exact ⟨u, w, hu, hs ▸ hw, h⟩

/-- A pop that ends in a next state read its two bytes, the low one first, and left SP two higher. -/
theorem pop16Then_next {s t : State} {k : Word → State → Result} (h : s.pop16Then k = .next t) :
    ∃ lo hi, s.memRead s.regs.sp = some lo ∧ s.memRead (s.regs.sp + 1) = some hi ∧
      k (pair hi lo) (s.setSp (s.regs.sp + 2)) = .next t := by
  unfold State.pop16Then at h
  obtain ⟨lo, hlo, h⟩ := readThen_next h
  obtain ⟨hi, hhi, h⟩ := readThen_next h
  refine ⟨lo, hi, hlo, by simpa using hhi, ?_⟩
  have hs : s.regs.sp + 1 + 1 = s.regs.sp + 2 := by bv_omega
  rw [← hs]
  exact h

/-! ### The units -/

/-- A turn of the DMA loop that ends in a next state read its byte and stored it in OAM. -/
theorem dmaByteThen_next {s t : State} {k : State → Result} (h : s.dmaByteThen k = .next t) :
    ∃ v, s.busRead s.dma.nextAddr = some v ∧
      k { s with mem := s.mem.write (0xFE00 + s.dma.index) v
                 dma := { s.dma with acc := s.dma.acc - Config.dmaCyclesPerByte, index := s.dma.index + 1 } } = .next t := by
  unfold State.dmaByteThen at h
  dsimp only at h
  split at h
  · next v hv => exact ⟨v, hv, h⟩
  · simp [State.raise] at h

/-- The timer's update changes the timer and IF only (R834). -/
theorem timaTicks_eq (n : Nat) (s : State) :
    State.timaTicks n s = { s with iflag := (State.timaTicks n s).iflag
                                   timer := { s.timer with tima := (State.timaTicks n s).timer.tima } } := by
  induction n generalizing s with
  | zero => rfl
  | succ n ih =>
    unfold State.timaTicks
    rw [ih]
    unfold State.timaTick State.request
    split <;> rfl

theorem timerUpdate_eq (s : State) (c : Nat) :
    s.timerUpdate c = { s with iflag := (s.timerUpdate c).iflag, timer := (s.timerUpdate c).timer } := by
  unfold State.timerUpdate
  dsimp only
  split
  · rw [timaTicks_eq]
  · rfl

end Sys2Proof.Machine
end

