-- ==== Sys2Proof/Laws/Accesses.lean ====
section
/-! SUPPORT. The laws of the CPU's accesses in the terms of Sys2Proof/Safety.lean: when the bus answers, which device does, and the frame
of a write. -/

namespace Sys2Proof.Machine

/-! ### When the bus answers -/

theorem answers_iff (s : State) (a : Word) : s.Answers a ↔ s.memRead a ≠ none := by
  rw [Ne, memRead_none]
  unfold State.Answers
  cases s.blocked a <;> cases deviceAt a.toNat <;> cases s.policy <;> simp

theorem memRead_of_answers {s : State} {a : Word} (h : s.Answers a) : ∃ v, s.memRead a = some v := by
  rw [answers_iff] at h
  exact Option.ne_none_iff_exists'.mp h

theorem memWrite_of_answers {s : State} {a : Word} (v : Byte) (h : s.Answers a) : ∃ t, s.memWrite a v = some t := by
  rw [answers_iff] at h
  have hs := memWrite_isSome s a v
  cases hw : s.memWrite a v with
  | some t => exact ⟨t, rfl⟩
  | none => rw [hw] at hs; cases hr : s.memRead a <;> simp_all

theorem memRead_of_not_answers {s : State} {a : Word} (h : ¬s.Answers a) : s.memRead a = none := by
  rw [answers_iff] at h
  simpa using h

theorem memWrite_of_not_answers {s : State} {a : Word} (v : Byte) (h : ¬s.Answers a) : s.memWrite a v = none := by
  have hs := memWrite_isSome s a v
  rw [memRead_of_not_answers h] at hs
  simpa using hs

/-! ### Which device answers -/

/-- The ranges of R201, as propositions. -/
theorem accepts_iff (d : Device) (a : Nat) : d.accepts a = true ↔ match d with
    | .cartridge => a ≤ 0x7FFF ∨ (0xA000 ≤ a ∧ a ≤ 0xBFFF)
    | .ppu => ((0x8000 ≤ a ∧ a ≤ 0x9FFF) ∨ (0xFE00 ≤ a ∧ a ≤ 0xFE9F)) ∨ (0xFF40 ≤ a ∧ a ≤ 0xFF4B)
    | .ram => (((0xC000 ≤ a ∧ a ≤ 0xDFFF) ∨ (0xE000 ≤ a ∧ a ≤ 0xFDFF)) ∨ (0xFEA0 ≤ a ∧ a ≤ 0xFEFF)) ∨ (0xFF80 ≤ a ∧ a ≤ 0xFFFE)
    | .timer => 0xFF04 ≤ a ∧ a ≤ 0xFF07
    | .interrupts => a = 0xFF0F ∨ a = 0xFFFF
    | .joypad => a = 0xFF00
    | .serial => 0xFF01 ≤ a ∧ a ≤ 0xFF02 := by
  cases d <;> simp [Device.accepts]

/-! ### Cells -/

theorem writeCell_read (s : State) (a : Nat) (v : Byte) (k : Nat) :
    (s.writeCell a v).mem.read k = if s.cellOf a = some k then v else s.mem.read k := by
  unfold State.writeCell
  split
  · next j hj => rw [hj]; simp [eq_comm]
  · next hj => rw [hj]; simp

theorem writeCell_cellOf (s : State) (a : Nat) (v : Byte) (x : Nat) : (s.writeCell a v).cellOf x = s.cellOf x := by
  rw [writeCell_eq]
  rfl

/-- A cell behind an address outside the ROM windows is no cell of ROM. -/
theorem cellOf_lt_romBase {s : State} {a k : Nat} (h : s.cellOf a = some k) (ha : 0x8000 ≤ a) : k < romBase := by
  unfold State.cellOf at h
  have e : romBase = 0x100000 := rfl
  have e2 : cramBase = 0x10000 := rfl
  split at h
  · omega
  split at h
  · simp at h; omega
  split at h
  · unfold Cart.cramOffset at h
    split at h
    · split at h <;> simp at h; omega
    · split at h
      · have hb : s.cart.bank2.toNat < 4 := s.cart.bank2.isLt
        have e3 : Config.ramBankSize = 0x2000 := rfl
        simp at h
        have h2 := Nat.mod_le ((if s.cart.mode = 1 then s.cart.bank2.toNat * Config.ramBankSize else 0) + (a - 40960)) s.cart.ramSize
        have h3 : (if s.cart.mode = 1 then s.cart.bank2.toNat * Config.ramBankSize else 0) ≤ 0x6000 := by rw [e3]; split <;> omega
        simp only [BitVec.ofNat_eq_ofNat] at *
        omega
      · simp at h
  split at h
  · simp at h; omega
  split at h
  · simp at h; omega
  split at h
  · simp at h; omega
  split at h
  · simp at h; omega
  · simp at h

/-! ### The frame of a write -/

/-- The port of a write, by device: a cell, or the device's own register. -/
theorem deviceWrite_cases (s : State) (d : Device) (a : Nat) (v : Byte) (hd : d.accepts a = true) :
    (s.deviceWrite d a v = s.writeCell a v ∧ 0x8000 ≤ a ∧ (a < 0xFF00 ∨ (0xFF80 ≤ a ∧ a < 0xFFFF))) ∨
    (s.deviceWrite d a v = { s with cart := s.cart.writeRegister a v } ∧ a < 0x8000) ∨
    (s.deviceWrite d a v = { s with dma := Dma.begin v } ∧ a = 0xFF46) ∨
    (s.deviceWrite d a v = s.writePpuRegister a v ∧ 0xFF40 ≤ a ∧ a ≤ 0xFF4B ∧ a ≠ 0xFF46) ∨
    (s.deviceWrite d a v = { s with timer := s.timer.writeRegister a v } ∧ 0xFF04 ≤ a ∧ a ≤ 0xFF07) ∨
    (s.deviceWrite d a v = { s with ie := v } ∧ a = 0xFFFF) ∨
    (s.deviceWrite d a v = { s with iflag := v } ∧ a = 0xFF0F) ∨
    (s.deviceWrite d a v = { s with joypad := s.joypad.write v } ∧ a = 0xFF00) ∨
    (s.deviceWrite d a v = { s with serial := s.serial.writeRegister a v } ∧ 0xFF01 ≤ a ∧ a ≤ 0xFF02) := by
  rw [accepts_iff] at hd
  cases d <;> simp only [State.deviceWrite] at hd ⊢
  · by_cases h : a < 0x8000
    · rw [if_pos h]; exact .inr (.inl ⟨by trivial, h⟩)
    · rw [if_neg h]; exact .inl ⟨by trivial, by omega, by omega⟩
  · by_cases h : a < 0xFF40
    · rw [if_pos h]; exact .inl ⟨by trivial, by omega, by omega⟩
    · rw [if_neg h]
      by_cases h2 : a = 0xFF46
      · rw [if_pos h2]; exact .inr (.inr (.inl ⟨by trivial, h2⟩))
      · rw [if_neg h2]; exact .inr (.inr (.inr (.inl ⟨by trivial, by omega, by omega, h2⟩)))
  · exact .inl ⟨by trivial, by omega, by omega⟩
  · exact .inr (.inr (.inr (.inr (.inl ⟨by trivial, hd⟩))))
  · by_cases h : a = 0xFFFF
    · rw [if_pos h]; exact .inr (.inr (.inr (.inr (.inr (.inl ⟨by trivial, h⟩)))))
    · rw [if_neg h]; exact .inr (.inr (.inr (.inr (.inr (.inr (.inl ⟨by trivial, by omega⟩))))))
  · exact .inr (.inr (.inr (.inr (.inr (.inr (.inr (.inl ⟨by trivial, hd⟩)))))))
  · exact .inr (.inr (.inr (.inr (.inr (.inr (.inr (.inr ⟨by trivial, hd⟩)))))))

theorem writeRegister_fixed (c : Cart) (a : Nat) (v : Byte) :
    (c.writeRegister a v).kind = c.kind ∧ (c.writeRegister a v).romSize = c.romSize ∧ (c.writeRegister a v).ramSize = c.ramSize := by
  unfold Cart.writeRegister
  split
  · exact ⟨rfl, rfl, rfl⟩
  · split <;> [skip; split <;> [skip; split]] <;> exact ⟨rfl, rfl, rfl⟩

/-- IF after a write of a PPU register. -/
theorem writePpuRegister_iflag (s : State) (a : Nat) (v : Byte) :
    (s.writePpuRegister a v).iflag = s.iflag ∨
      ((a = 0xFF41 ∨ a = 0xFF45) ∧ (s.writePpuRegister a v).iflag = s.iflag ||| 0x02) := by
  have on (u : State) : u.evalStatIfOn.iflag = u.iflag ∨ u.evalStatIfOn.iflag = u.iflag ||| 0x02 := by
    unfold State.evalStatIfOn
    split
    · exact evalStat_iflag u
    · exact .inl rfl
  unfold State.writePpuRegister
  split <;> first
    | exact .inl rfl
    | exact (on _).imp id fun h => ⟨.inl rfl, h⟩
    | exact (on _).imp id fun h => ⟨.inr rfl, h⟩

/-- A write port has the frame of a write. -/
theorem deviceWrite_frame (s : State) (d : Device) (a : Word) (v : Byte) (hd : d.accepts a.toNat = true) :
    WriteFrame s (s.deviceWrite d a.toNat v) a := by
  have ne : ∀ w : Word, a ≠ w ↔ a.toNat ≠ w.toNat := fun w => by rw [Ne, Ne, BitVec.toNat_inj]
  have eq : ∀ w : Word, a = w ↔ a.toNat = w.toNat := fun w => by rw [BitVec.toNat_inj]
  have hb := a.isLt
  obtain ⟨h, ha⟩ | ⟨h, ha⟩ | ⟨h, ha⟩ | ⟨h, ha⟩ | ⟨h, ha⟩ | ⟨h, ha⟩ | ⟨h, ha⟩ | ⟨h, ha⟩ | ⟨h, ha⟩ :=
    deviceWrite_cases s d a.toNat v hd <;> rw [h] <;> clear h hd
  · have e := writeCell_eq s a.toNat v
    constructor
    case cells =>
      intro k hk
      rw [writeCell_read, if_neg]
      intro hc
      have := cellOf_lt_romBase hc ha.1
      rcases hk with hk | hk
      · exact hk hc
      · omega
    case reads =>
      intro _ x hx
      have hr : (s.writeCell a.toNat v).readCell x.toNat = s.readCell x.toNat := by
        unfold State.readCell
        rw [writeCell_cellOf]
        cases hk : s.cellOf x.toNat with
        | none => rfl
        | some k =>
          dsimp only
          rw [writeCell_read, if_neg]
          intro hh
          simp [hk, hh] at hx
      unfold State.busRead
      cases deviceAt x.toNat with
      | none => rw [e]
      | some d' =>
        dsimp only
        congr 1
        unfold State.deviceRead
        cases d' <;> simp only [hr] <;> rw [e]
    all_goals rw [e]
    case cart => exact ⟨fun _ => rfl, rfl, rfl, rfl⟩
    case control => exact ⟨rfl, rfl, rfl, rfl, rfl⟩
    case outside => exact ⟨rfl, rfl, rfl, rfl, rfl, rfl, rfl, rfl⟩
    case iflag => exact fun _ => .inl rfl
    all_goals intros; rfl
  case' inr.inr.inr.inl =>
    have e := writePpuRegister_eq s a.toNat v
    have hi := writePpuRegister_iflag s a.toNat v
    generalize (s.writePpuRegister a.toNat v).iflag = iflag at e hi
    generalize (s.writePpuRegister a.toNat v).ppu = ppu at e
    rw [e]
    clear e
  all_goals constructor
  case inr.inl.cart => exact ⟨fun h => by omega, writeRegister_fixed _ _ _⟩
  case inr.inr.inr.inl.iflag =>
    rcases hi with h | ⟨h, h2⟩
    · exact fun _ => .inl h
    · exact fun _ => .inr ⟨by simpa [eq] using h, h2⟩
  all_goals first
    | exact rfl
    | exact fun _ => rfl
    | exact fun _ _ => rfl
    | exact fun _ => .inl rfl
    | exact ⟨rfl, rfl, rfl, rfl, rfl⟩
    | exact ⟨rfl, rfl, rfl, rfl, rfl, rfl, rfl, rfl⟩
    | exact ⟨fun _ => rfl, rfl, rfl, rfl⟩
    | (simp only [ne, eq, ramAddr, BitVec.toNat_ofNat, BitVec.ofNat_eq_ofNat]; intros; omega)

/-- A write of the CPU has the frame of a write (R200, R231). -/
theorem memWrite_frame {s t : State} {a : Word} {v : Byte} (h : s.memWrite a v = some t) : WriteFrame s t a := by
  obtain rfl | ⟨d, hd, -, rfl⟩ := memWrite_cases h
  · constructor <;> (try intros) <;> first | rfl | exact .inl rfl | simp
  · exact deviceWrite_frame s d a v (accepts_of_deviceAt hd)

end Sys2Proof.Machine
end

