-- ==== Sys2Proof/Laws/Forms.lean ====
section
/-! SUPPORT. The 512 arms of `exec` as a few forms over the shared operations, so that a law about every instruction is a case
analysis over the forms. `exec_eq_run` is the only lemma that looks at the arms. -/

namespace Sys2Proof.Machine

/-- Where LD A,(..) and LD (..),A take their address. -/
inductive AddrForm
  | pair (r : Reg16)
  | abs (a : Word)
  | high (n : Byte)
  | highC

def AddrForm.addr (a : AddrForm) (s : State) : Word :=
  match a with
  | .pair r => s.reg16 r
  | .abs w => w
  | .high n => highPage n
  | .highC => highPage (s.reg .c)

/-- The forms of the instructions, each named after the shared operation it runs. -/
inductive Form
  | loadReg (r r2 : Reg8) | loadRegAtHl (r : Reg8) | storeRegAtHl (r : Reg8) | loadRegN8 (r : Reg8) (n : Byte) | storeN8AtHl (n : Byte)
  | loadAFrom (a : AddrForm) (n : Nat) | storeATo (a : AddrForm) (n : Nat) | loadAHlStep (w : Word) | storeAHlStep (w : Word)
  | loadR16 (r : Reg16) (w : Word) | storeSp (a : Word) | loadSpHl | loadHlSp (e : Byte)
  | pushR16 (p : StackPair) | pushAf | popR16 (p : StackPair) | popAf
  | aluOnReg (op : AluOp) (r : Reg8) | aluOnHl (op : AluOp) | aluOnN8 (op : AluOp) (n : Byte)
  | incReg (r : Reg8) | decReg (r : Reg8) | incAtHl | decAtHl | daa | cpl | scf | ccf
  | stepR16 (w : Word) (r : Reg16) | addToHl (r : Reg16) | addSp (e : Byte)
  | rotA (op : RotOp) | rotOnReg (op : RotOp) (r : Reg8) | rotOnHl (op : RotOp) | bitOnReg (b : Fin 8) (r : Reg8) | bitOnHl (b : Fin 8)
  | resBit (b : Fin 8) (r : Reg8) | resBitAtHl (b : Fin 8) | setBit (b : Fin 8) (r : Reg8) | setBitAtHl (b : Fin 8) | prefixCb (sub : Byte)
  | jump (t : Word) | jumpIf (cc : Cond) (t : Word) | jumpHl | branch (e : Byte) | branchIf (cc : Cond) (e : Byte)
  | callTo (t : Word) (n : Nat) | callIf (cc : Cond) (t : Word) | returnTo (n : Nat) | returnIf (cc : Cond) | reti | restart (y : Fin 8)
  | nop | stop (n : Byte) | di | ei | halt | illegal (op : Byte)

/-- What a form does: the shared operation itself. -/
def Form.run (x : Form) (s : State) : Result :=
  match x with
  | .loadReg r r2 => Machine.loadReg r r2 s
  | .loadRegAtHl r => Machine.loadRegAtHl r s
  | .storeRegAtHl r => Machine.storeRegAtHl r s
  | .loadRegN8 r n => Machine.loadRegN8 r n s
  | .storeN8AtHl n => execLdAtHlN8 n s
  | .loadAFrom a n => loadA (a.addr s) n s
  | .storeATo a n => storeA (a.addr s) n s
  | .loadAHlStep w => Machine.loadAHlStep w s
  | .storeAHlStep w => Machine.storeAHlStep w s
  | .loadR16 r w => Machine.loadR16 r w s
  | .storeSp a => execLdAtA16Sp a s
  | .loadSpHl => execLdSpHl s
  | .loadHlSp e => execLdHlSpE8 e s
  | .pushR16 p => Machine.pushR16 p s
  | .pushAf => execPushAf s
  | .popR16 p => Machine.popR16 p s
  | .popAf => execPopAf s
  | .aluOnReg op r => Machine.aluOnReg op r s
  | .aluOnHl op => Machine.aluOnHl op s
  | .aluOnN8 op n => Machine.aluOnN8 op n s
  | .incReg r => stepReg inc8 r s
  | .decReg r => stepReg dec8 r s
  | .incAtHl => stepAtHl inc8 s
  | .decAtHl => stepAtHl dec8 s
  | .daa => execDaa s
  | .cpl => execCpl s
  | .scf => execScf s
  | .ccf => execCcf s
  | .stepR16 w r => Machine.stepR16 w r s
  | .addToHl r => Machine.addToHl r s
  | .addSp e => execAddSpE8 e s
  | .rotA op => Machine.rotA op s
  | .rotOnReg op r => Machine.rotOnReg op r s
  | .rotOnHl op => Machine.rotOnHl op s
  | .bitOnReg b r => Machine.bitOnReg b r s
  | .bitOnHl b => Machine.bitOnHl b s
  | .resBit b r => mapReg (fun v => Machine.resBit v b) r s
  | .resBitAtHl b => mapAtHl (fun v => Machine.resBit v b) s
  | .setBit b r => mapReg (fun v => Machine.setBit v b) r s
  | .setBitAtHl b => mapAtHl (fun v => Machine.setBit v b) s
  | .prefixCb sub => execPrefixCb sub s
  | .jump t => execJpA16 t s
  | .jumpIf cc t => Machine.jumpIf cc t s
  | .jumpHl => execJpHl s
  | .branch e => execJrE8 e s
  | .branchIf cc e => Machine.branchIf cc e s
  | .callTo t n => Machine.callTo t n s
  | .callIf cc t => Machine.callIf cc t s
  | .returnTo n => Machine.returnTo n s
  | .returnIf cc => Machine.returnIf cc s
  | .reti => execReti s
  | .restart y => Machine.restart y s
  | .nop => execNop s
  | .stop n => execStop n s
  | .di => execDi s
  | .ei => execEi s
  | .halt => execHalt s
  | .illegal op => Machine.illegal op s

/-- The form of an instruction. -/
def formOf (i : Instr) : Form :=
  match i with
  | .nop => .nop
  | .ldBcN16 n16 => .loadR16 .bc n16
  | .ldAtBcA => .storeATo (.pair .bc) 8
  | .incBc => .stepR16 1 .bc
  | .incB => .incReg .b
  | .decB => .decReg .b
  | .ldBN8 n8 => .loadRegN8 .b n8
  | .rlca => .rotA .rlc
  | .ldAtA16Sp a16 => .storeSp a16
  | .addHlBc => .addToHl .bc
  | .ldAAtBc => .loadAFrom (.pair .bc) 8
  | .decBc => .stepR16 (-1) .bc
  | .incC => .incReg .c
  | .decC => .decReg .c
  | .ldCN8 n8 => .loadRegN8 .c n8
  | .rrca => .rotA .rrc
  | .stop n => .stop n
  | .ldDeN16 n16 => .loadR16 .de n16
  | .ldAtDeA => .storeATo (.pair .de) 8
  | .incDe => .stepR16 1 .de
  | .incD => .incReg .d
  | .decD => .decReg .d
  | .ldDN8 n8 => .loadRegN8 .d n8
  | .rla => .rotA .rl
  | .jrE8 e8 => .branch e8
  | .addHlDe => .addToHl .de
  | .ldAAtDe => .loadAFrom (.pair .de) 8
  | .decDe => .stepR16 (-1) .de
  | .incE => .incReg .e
  | .decE => .decReg .e
  | .ldEN8 n8 => .loadRegN8 .e n8
  | .rra => .rotA .rr
  | .jrNzE8 e8 => .branchIf .nz e8
  | .ldHlN16 n16 => .loadR16 .hl n16
  | .ldAtHlIncA => .storeAHlStep 1
  | .incHl => .stepR16 1 .hl
  | .incH => .incReg .h
  | .decH => .decReg .h
  | .ldHN8 n8 => .loadRegN8 .h n8
  | .daa => .daa
  | .jrZE8 e8 => .branchIf .z e8
  | .addHlHl => .addToHl .hl
  | .ldAAtHlInc => .loadAHlStep 1
  | .decHl => .stepR16 (-1) .hl
  | .incL => .incReg .l
  | .decL => .decReg .l
  | .ldLN8 n8 => .loadRegN8 .l n8
  | .cpl => .cpl
  | .jrNcE8 e8 => .branchIf .nc e8
  | .ldSpN16 n16 => .loadR16 .sp n16
  | .ldAtHlDecA => .storeAHlStep (-1)
  | .incSp => .stepR16 1 .sp
  | .incAtHl => .incAtHl
  | .decAtHl => .decAtHl
  | .ldAtHlN8 n8 => .storeN8AtHl n8
  | .scf => .scf
  | .jrCE8 e8 => .branchIf .c e8
  | .addHlSp => .addToHl .sp
  | .ldAAtHlDec => .loadAHlStep (-1)
  | .decSp => .stepR16 (-1) .sp
  | .incA => .incReg .a
  | .decA => .decReg .a
  | .ldAN8 n8 => .loadRegN8 .a n8
  | .ccf => .ccf
  | .ldBB => .loadReg .b .b
  | .ldBC => .loadReg .b .c
  | .ldBD => .loadReg .b .d
  | .ldBE => .loadReg .b .e
  | .ldBH => .loadReg .b .h
  | .ldBL => .loadReg .b .l
  | .ldBAtHl => .loadRegAtHl .b
  | .ldBA => .loadReg .b .a
  | .ldCB => .loadReg .c .b
  | .ldCC => .loadReg .c .c
  | .ldCD => .loadReg .c .d
  | .ldCE => .loadReg .c .e
  | .ldCH => .loadReg .c .h
  | .ldCL => .loadReg .c .l
  | .ldCAtHl => .loadRegAtHl .c
  | .ldCA => .loadReg .c .a
  | .ldDB => .loadReg .d .b
  | .ldDC => .loadReg .d .c
  | .ldDD => .loadReg .d .d
  | .ldDE => .loadReg .d .e
  | .ldDH => .loadReg .d .h
  | .ldDL => .loadReg .d .l
  | .ldDAtHl => .loadRegAtHl .d
  | .ldDA => .loadReg .d .a
  | .ldEB => .loadReg .e .b
  | .ldEC => .loadReg .e .c
  | .ldED => .loadReg .e .d
  | .ldEE => .loadReg .e .e
  | .ldEH => .loadReg .e .h
  | .ldEL => .loadReg .e .l
  | .ldEAtHl => .loadRegAtHl .e
  | .ldEA => .loadReg .e .a
  | .ldHB => .loadReg .h .b
  | .ldHC => .loadReg .h .c
  | .ldHD => .loadReg .h .d
  | .ldHE => .loadReg .h .e
  | .ldHH => .loadReg .h .h
  | .ldHL => .loadReg .h .l
  | .ldHAtHl => .loadRegAtHl .h
  | .ldHA => .loadReg .h .a
  | .ldLB => .loadReg .l .b
  | .ldLC => .loadReg .l .c
  | .ldLD => .loadReg .l .d
  | .ldLE => .loadReg .l .e
  | .ldLH => .loadReg .l .h
  | .ldLL => .loadReg .l .l
  | .ldLAtHl => .loadRegAtHl .l
  | .ldLA => .loadReg .l .a
  | .ldAtHlB => .storeRegAtHl .b
  | .ldAtHlC => .storeRegAtHl .c
  | .ldAtHlD => .storeRegAtHl .d
  | .ldAtHlE => .storeRegAtHl .e
  | .ldAtHlH => .storeRegAtHl .h
  | .ldAtHlL => .storeRegAtHl .l
  | .halt => .halt
  | .ldAtHlA => .storeRegAtHl .a
  | .ldAB => .loadReg .a .b
  | .ldAC => .loadReg .a .c
  | .ldAD => .loadReg .a .d
  | .ldAE => .loadReg .a .e
  | .ldAH => .loadReg .a .h
  | .ldAL => .loadReg .a .l
  | .ldAAtHl => .loadRegAtHl .a
  | .ldAA => .loadReg .a .a
  | .addAB => .aluOnReg .add .b
  | .addAC => .aluOnReg .add .c
  | .addAD => .aluOnReg .add .d
  | .addAE => .aluOnReg .add .e
  | .addAH => .aluOnReg .add .h
  | .addAL => .aluOnReg .add .l
  | .addAAtHl => .aluOnHl .add
  | .addAA => .aluOnReg .add .a
  | .adcAB => .aluOnReg .adc .b
  | .adcAC => .aluOnReg .adc .c
  | .adcAD => .aluOnReg .adc .d
  | .adcAE => .aluOnReg .adc .e
  | .adcAH => .aluOnReg .adc .h
  | .adcAL => .aluOnReg .adc .l
  | .adcAAtHl => .aluOnHl .adc
  | .adcAA => .aluOnReg .adc .a
  | .subB => .aluOnReg .sub .b
  | .subC => .aluOnReg .sub .c
  | .subD => .aluOnReg .sub .d
  | .subE => .aluOnReg .sub .e
  | .subH => .aluOnReg .sub .h
  | .subL => .aluOnReg .sub .l
  | .subAtHl => .aluOnHl .sub
  | .subA => .aluOnReg .sub .a
  | .sbcAB => .aluOnReg .sbc .b
  | .sbcAC => .aluOnReg .sbc .c
  | .sbcAD => .aluOnReg .sbc .d
  | .sbcAE => .aluOnReg .sbc .e
  | .sbcAH => .aluOnReg .sbc .h
  | .sbcAL => .aluOnReg .sbc .l
  | .sbcAAtHl => .aluOnHl .sbc
  | .sbcAA => .aluOnReg .sbc .a
  | .andB => .aluOnReg .and .b
  | .andC => .aluOnReg .and .c
  | .andD => .aluOnReg .and .d
  | .andE => .aluOnReg .and .e
  | .andH => .aluOnReg .and .h
  | .andL => .aluOnReg .and .l
  | .andAtHl => .aluOnHl .and
  | .andA => .aluOnReg .and .a
  | .xorB => .aluOnReg .xor .b
  | .xorC => .aluOnReg .xor .c
  | .xorD => .aluOnReg .xor .d
  | .xorE => .aluOnReg .xor .e
  | .xorH => .aluOnReg .xor .h
  | .xorL => .aluOnReg .xor .l
  | .xorAtHl => .aluOnHl .xor
  | .xorA => .aluOnReg .xor .a
  | .orB => .aluOnReg .or .b
  | .orC => .aluOnReg .or .c
  | .orD => .aluOnReg .or .d
  | .orE => .aluOnReg .or .e
  | .orH => .aluOnReg .or .h
  | .orL => .aluOnReg .or .l
  | .orAtHl => .aluOnHl .or
  | .orA => .aluOnReg .or .a
  | .cpB => .aluOnReg .cp .b
  | .cpC => .aluOnReg .cp .c
  | .cpD => .aluOnReg .cp .d
  | .cpE => .aluOnReg .cp .e
  | .cpH => .aluOnReg .cp .h
  | .cpL => .aluOnReg .cp .l
  | .cpAtHl => .aluOnHl .cp
  | .cpA => .aluOnReg .cp .a
  | .retNz => .returnIf .nz
  | .popBc => .popR16 .bc
  | .jpNzA16 a16 => .jumpIf .nz a16
  | .jpA16 a16 => .jump a16
  | .callNzA16 a16 => .callIf .nz a16
  | .pushBc => .pushR16 .bc
  | .addAN8 n8 => .aluOnN8 .add n8
  | .rst00 => .restart 0
  | .retZ => .returnIf .z
  | .ret => .returnTo 16
  | .jpZA16 a16 => .jumpIf .z a16
  | .prefixCb sub => .prefixCb sub
  | .callZA16 a16 => .callIf .z a16
  | .callA16 a16 => .callTo a16 24
  | .adcAN8 n8 => .aluOnN8 .adc n8
  | .rst08 => .restart 1
  | .retNc => .returnIf .nc
  | .popDe => .popR16 .de
  | .jpNcA16 a16 => .jumpIf .nc a16
  | .illegalD3 => .illegal 0xD3
  | .callNcA16 a16 => .callIf .nc a16
  | .pushDe => .pushR16 .de
  | .subN8 n8 => .aluOnN8 .sub n8
  | .rst10 => .restart 2
  | .retC => .returnIf .c
  | .reti => .reti
  | .jpCA16 a16 => .jumpIf .c a16
  | .illegalDB => .illegal 0xDB
  | .callCA16 a16 => .callIf .c a16
  | .illegalDD => .illegal 0xDD
  | .sbcAN8 n8 => .aluOnN8 .sbc n8
  | .rst18 => .restart 3
  | .ldhAtA8A a8 => .storeATo (.high a8) 12
  | .popHl => .popR16 .hl
  | .ldAtCA => .storeATo .highC 8
  | .illegalE3 => .illegal 0xE3
  | .illegalE4 => .illegal 0xE4
  | .pushHl => .pushR16 .hl
  | .andN8 n8 => .aluOnN8 .and n8
  | .rst20 => .restart 4
  | .addSpE8 e8 => .addSp e8
  | .jpHl => .jumpHl
  | .ldAtA16A a16 => .storeATo (.abs a16) 16
  | .illegalEB => .illegal 0xEB
  | .illegalEC => .illegal 0xEC
  | .illegalED => .illegal 0xED
  | .xorN8 n8 => .aluOnN8 .xor n8
  | .rst28 => .restart 5
  | .ldhAAtA8 a8 => .loadAFrom (.high a8) 12
  | .popAf => .popAf
  | .ldAAtC => .loadAFrom .highC 8
  | .di => .di
  | .illegalF4 => .illegal 0xF4
  | .pushAf => .pushAf
  | .orN8 n8 => .aluOnN8 .or n8
  | .rst30 => .restart 6
  | .ldHlSpE8 e8 => .loadHlSp e8
  | .ldSpHl => .loadSpHl
  | .ldAAtA16 a16 => .loadAFrom (.abs a16) 16
  | .ei => .ei
  | .illegalFC => .illegal 0xFC
  | .illegalFD => .illegal 0xFD
  | .cpN8 n8 => .aluOnN8 .cp n8
  | .rst38 => .restart 7
  | .rlcB => .rotOnReg .rlc .b
  | .rlcC => .rotOnReg .rlc .c
  | .rlcD => .rotOnReg .rlc .d
  | .rlcE => .rotOnReg .rlc .e
  | .rlcH => .rotOnReg .rlc .h
  | .rlcL => .rotOnReg .rlc .l
  | .rlcAtHl => .rotOnHl .rlc
  | .rlcA => .rotOnReg .rlc .a
  | .rrcB => .rotOnReg .rrc .b
  | .rrcC => .rotOnReg .rrc .c
  | .rrcD => .rotOnReg .rrc .d
  | .rrcE => .rotOnReg .rrc .e
  | .rrcH => .rotOnReg .rrc .h
  | .rrcL => .rotOnReg .rrc .l
  | .rrcAtHl => .rotOnHl .rrc
  | .rrcA => .rotOnReg .rrc .a
  | .rlB => .rotOnReg .rl .b
  | .rlC => .rotOnReg .rl .c
  | .rlD => .rotOnReg .rl .d
  | .rlE => .rotOnReg .rl .e
  | .rlH => .rotOnReg .rl .h
  | .rlL => .rotOnReg .rl .l
  | .rlAtHl => .rotOnHl .rl
  | .rlA => .rotOnReg .rl .a
  | .rrB => .rotOnReg .rr .b
  | .rrC => .rotOnReg .rr .c
  | .rrD => .rotOnReg .rr .d
  | .rrE => .rotOnReg .rr .e
  | .rrH => .rotOnReg .rr .h
  | .rrL => .rotOnReg .rr .l
  | .rrAtHl => .rotOnHl .rr
  | .rrA => .rotOnReg .rr .a
  | .slaB => .rotOnReg .sla .b
  | .slaC => .rotOnReg .sla .c
  | .slaD => .rotOnReg .sla .d
  | .slaE => .rotOnReg .sla .e
  | .slaH => .rotOnReg .sla .h
  | .slaL => .rotOnReg .sla .l
  | .slaAtHl => .rotOnHl .sla
  | .slaA => .rotOnReg .sla .a
  | .sraB => .rotOnReg .sra .b
  | .sraC => .rotOnReg .sra .c
  | .sraD => .rotOnReg .sra .d
  | .sraE => .rotOnReg .sra .e
  | .sraH => .rotOnReg .sra .h
  | .sraL => .rotOnReg .sra .l
  | .sraAtHl => .rotOnHl .sra
  | .sraA => .rotOnReg .sra .a
  | .swapB => .rotOnReg .swap .b
  | .swapC => .rotOnReg .swap .c
  | .swapD => .rotOnReg .swap .d
  | .swapE => .rotOnReg .swap .e
  | .swapH => .rotOnReg .swap .h
  | .swapL => .rotOnReg .swap .l
  | .swapAtHl => .rotOnHl .swap
  | .swapA => .rotOnReg .swap .a
  | .srlB => .rotOnReg .srl .b
  | .srlC => .rotOnReg .srl .c
  | .srlD => .rotOnReg .srl .d
  | .srlE => .rotOnReg .srl .e
  | .srlH => .rotOnReg .srl .h
  | .srlL => .rotOnReg .srl .l
  | .srlAtHl => .rotOnHl .srl
  | .srlA => .rotOnReg .srl .a
  | .bit0B => .bitOnReg 0 .b
  | .bit0C => .bitOnReg 0 .c
  | .bit0D => .bitOnReg 0 .d
  | .bit0E => .bitOnReg 0 .e
  | .bit0H => .bitOnReg 0 .h
  | .bit0L => .bitOnReg 0 .l
  | .bit0AtHl => .bitOnHl 0
  | .bit0A => .bitOnReg 0 .a
  | .bit1B => .bitOnReg 1 .b
  | .bit1C => .bitOnReg 1 .c
  | .bit1D => .bitOnReg 1 .d
  | .bit1E => .bitOnReg 1 .e
  | .bit1H => .bitOnReg 1 .h
  | .bit1L => .bitOnReg 1 .l
  | .bit1AtHl => .bitOnHl 1
  | .bit1A => .bitOnReg 1 .a
  | .bit2B => .bitOnReg 2 .b
  | .bit2C => .bitOnReg 2 .c
  | .bit2D => .bitOnReg 2 .d
  | .bit2E => .bitOnReg 2 .e
  | .bit2H => .bitOnReg 2 .h
  | .bit2L => .bitOnReg 2 .l
  | .bit2AtHl => .bitOnHl 2
  | .bit2A => .bitOnReg 2 .a
  | .bit3B => .bitOnReg 3 .b
  | .bit3C => .bitOnReg 3 .c
  | .bit3D => .bitOnReg 3 .d
  | .bit3E => .bitOnReg 3 .e
  | .bit3H => .bitOnReg 3 .h
  | .bit3L => .bitOnReg 3 .l
  | .bit3AtHl => .bitOnHl 3
  | .bit3A => .bitOnReg 3 .a
  | .bit4B => .bitOnReg 4 .b
  | .bit4C => .bitOnReg 4 .c
  | .bit4D => .bitOnReg 4 .d
  | .bit4E => .bitOnReg 4 .e
  | .bit4H => .bitOnReg 4 .h
  | .bit4L => .bitOnReg 4 .l
  | .bit4AtHl => .bitOnHl 4
  | .bit4A => .bitOnReg 4 .a
  | .bit5B => .bitOnReg 5 .b
  | .bit5C => .bitOnReg 5 .c
  | .bit5D => .bitOnReg 5 .d
  | .bit5E => .bitOnReg 5 .e
  | .bit5H => .bitOnReg 5 .h
  | .bit5L => .bitOnReg 5 .l
  | .bit5AtHl => .bitOnHl 5
  | .bit5A => .bitOnReg 5 .a
  | .bit6B => .bitOnReg 6 .b
  | .bit6C => .bitOnReg 6 .c
  | .bit6D => .bitOnReg 6 .d
  | .bit6E => .bitOnReg 6 .e
  | .bit6H => .bitOnReg 6 .h
  | .bit6L => .bitOnReg 6 .l
  | .bit6AtHl => .bitOnHl 6
  | .bit6A => .bitOnReg 6 .a
  | .bit7B => .bitOnReg 7 .b
  | .bit7C => .bitOnReg 7 .c
  | .bit7D => .bitOnReg 7 .d
  | .bit7E => .bitOnReg 7 .e
  | .bit7H => .bitOnReg 7 .h
  | .bit7L => .bitOnReg 7 .l
  | .bit7AtHl => .bitOnHl 7
  | .bit7A => .bitOnReg 7 .a
  | .res0B => .resBit 0 .b
  | .res0C => .resBit 0 .c
  | .res0D => .resBit 0 .d
  | .res0E => .resBit 0 .e
  | .res0H => .resBit 0 .h
  | .res0L => .resBit 0 .l
  | .res0AtHl => .resBitAtHl 0
  | .res0A => .resBit 0 .a
  | .res1B => .resBit 1 .b
  | .res1C => .resBit 1 .c
  | .res1D => .resBit 1 .d
  | .res1E => .resBit 1 .e
  | .res1H => .resBit 1 .h
  | .res1L => .resBit 1 .l
  | .res1AtHl => .resBitAtHl 1
  | .res1A => .resBit 1 .a
  | .res2B => .resBit 2 .b
  | .res2C => .resBit 2 .c
  | .res2D => .resBit 2 .d
  | .res2E => .resBit 2 .e
  | .res2H => .resBit 2 .h
  | .res2L => .resBit 2 .l
  | .res2AtHl => .resBitAtHl 2
  | .res2A => .resBit 2 .a
  | .res3B => .resBit 3 .b
  | .res3C => .resBit 3 .c
  | .res3D => .resBit 3 .d
  | .res3E => .resBit 3 .e
  | .res3H => .resBit 3 .h
  | .res3L => .resBit 3 .l
  | .res3AtHl => .resBitAtHl 3
  | .res3A => .resBit 3 .a
  | .res4B => .resBit 4 .b
  | .res4C => .resBit 4 .c
  | .res4D => .resBit 4 .d
  | .res4E => .resBit 4 .e
  | .res4H => .resBit 4 .h
  | .res4L => .resBit 4 .l
  | .res4AtHl => .resBitAtHl 4
  | .res4A => .resBit 4 .a
  | .res5B => .resBit 5 .b
  | .res5C => .resBit 5 .c
  | .res5D => .resBit 5 .d
  | .res5E => .resBit 5 .e
  | .res5H => .resBit 5 .h
  | .res5L => .resBit 5 .l
  | .res5AtHl => .resBitAtHl 5
  | .res5A => .resBit 5 .a
  | .res6B => .resBit 6 .b
  | .res6C => .resBit 6 .c
  | .res6D => .resBit 6 .d
  | .res6E => .resBit 6 .e
  | .res6H => .resBit 6 .h
  | .res6L => .resBit 6 .l
  | .res6AtHl => .resBitAtHl 6
  | .res6A => .resBit 6 .a
  | .res7B => .resBit 7 .b
  | .res7C => .resBit 7 .c
  | .res7D => .resBit 7 .d
  | .res7E => .resBit 7 .e
  | .res7H => .resBit 7 .h
  | .res7L => .resBit 7 .l
  | .res7AtHl => .resBitAtHl 7
  | .res7A => .resBit 7 .a
  | .set0B => .setBit 0 .b
  | .set0C => .setBit 0 .c
  | .set0D => .setBit 0 .d
  | .set0E => .setBit 0 .e
  | .set0H => .setBit 0 .h
  | .set0L => .setBit 0 .l
  | .set0AtHl => .setBitAtHl 0
  | .set0A => .setBit 0 .a
  | .set1B => .setBit 1 .b
  | .set1C => .setBit 1 .c
  | .set1D => .setBit 1 .d
  | .set1E => .setBit 1 .e
  | .set1H => .setBit 1 .h
  | .set1L => .setBit 1 .l
  | .set1AtHl => .setBitAtHl 1
  | .set1A => .setBit 1 .a
  | .set2B => .setBit 2 .b
  | .set2C => .setBit 2 .c
  | .set2D => .setBit 2 .d
  | .set2E => .setBit 2 .e
  | .set2H => .setBit 2 .h
  | .set2L => .setBit 2 .l
  | .set2AtHl => .setBitAtHl 2
  | .set2A => .setBit 2 .a
  | .set3B => .setBit 3 .b
  | .set3C => .setBit 3 .c
  | .set3D => .setBit 3 .d
  | .set3E => .setBit 3 .e
  | .set3H => .setBit 3 .h
  | .set3L => .setBit 3 .l
  | .set3AtHl => .setBitAtHl 3
  | .set3A => .setBit 3 .a
  | .set4B => .setBit 4 .b
  | .set4C => .setBit 4 .c
  | .set4D => .setBit 4 .d
  | .set4E => .setBit 4 .e
  | .set4H => .setBit 4 .h
  | .set4L => .setBit 4 .l
  | .set4AtHl => .setBitAtHl 4
  | .set4A => .setBit 4 .a
  | .set5B => .setBit 5 .b
  | .set5C => .setBit 5 .c
  | .set5D => .setBit 5 .d
  | .set5E => .setBit 5 .e
  | .set5H => .setBit 5 .h
  | .set5L => .setBit 5 .l
  | .set5AtHl => .setBitAtHl 5
  | .set5A => .setBit 5 .a
  | .set6B => .setBit 6 .b
  | .set6C => .setBit 6 .c
  | .set6D => .setBit 6 .d
  | .set6E => .setBit 6 .e
  | .set6H => .setBit 6 .h
  | .set6L => .setBit 6 .l
  | .set6AtHl => .setBitAtHl 6
  | .set6A => .setBit 6 .a
  | .set7B => .setBit 7 .b
  | .set7C => .setBit 7 .c
  | .set7D => .setBit 7 .d
  | .set7E => .setBit 7 .e
  | .set7H => .setBit 7 .h
  | .set7L => .setBit 7 .l
  | .set7AtHl => .setBitAtHl 7
  | .set7A => .setBit 7 .a

theorem exec_eq_run (i : Instr) (s : State) : exec i s = (formOf i).run s := by
  cases i <;> rfl

end Sys2Proof.Machine
end

