-- ==== Sys2Proof/Laws/Units.lean ====
section
/-! SUPPORT. What the units' updates, the input, the opcode fetch and the interrupt handling can change, said once, and the canonical form of memory through every
operation that writes a cell. -/

namespace Sys2Proof.Machine

/-! ### Memory keeps its canonical form -/

theorem wf_writeCell (s : State) (a : Nat) (v : Byte) (h : s.mem.wf) : (s.writeCell a v).mem.wf := by
  unfold State.writeCell
  split
  · exact Memory.wf_write _ _ _ h
  · exact h

theorem wf_deviceWrite (s : State) (d : Device) (a : Nat) (v : Byte) (h : s.mem.wf) : (s.deviceWrite d a v).mem.wf := by
  cases d <;> simp only [State.deviceWrite]
  · split
    · exact h
    · exact wf_writeCell s a v h
  · split
    · exact wf_writeCell s a v h
    · split
      · exact h
      · rw [writePpuRegister_eq]; exact h
  · exact wf_writeCell s a v h
  · exact h
  · split <;> exact h
  · exact h
  · exact h

theorem wf_memWrite {s t : State} {a : Word} {v : Byte} (hs : s.mem.wf) (h : s.memWrite a v = some t) : t.mem.wf := by
  obtain rfl | ⟨d, -, -, rfl⟩ := memWrite_cases h
  · exact hs
  · exact wf_deviceWrite s d a.toNat v hs

theorem wf_placeAt (s : State) (a : Word) (vs : List Byte) (h : s.mem.wf) : (s.placeAt a vs).mem.wf := by
  induction vs generalizing s a with
  | nil => exact h
  | cons v vs ih => exact ih _ _ (wf_writeCell s _ v h)

theorem wf_initialMemory (image : List Byte) (init : InitMemory) (n : Nat) : (initialMemory image init n).wf := by
  unfold initialMemory
  dsimp only
  repeat apply Memory.wf_writeBytes
  exact Memory.wf_nil

/-! ### The PPU -/

/-- Entering a mode and evaluating the STAT line changes the PPU and IF only. -/
theorem enterMode_eq (s : State) (m : PpuMode) :
    (s.enterMode m).evalStat = { s with iflag := (s.enterMode m).evalStat.iflag, ppu := (s.enterMode m).evalStat.ppu } := rfl

/-- Leaving a mode changes the PPU, IF and the presented frames only (R841). -/
theorem leaveMode_eq (s : State) :
    s.leaveMode = { s with iflag := s.leaveMode.iflag, ppu := s.leaveMode.ppu, presented := s.leaveMode.presented } := by
  have h : ∃ i p f, s.leaveMode = { s with iflag := i, ppu := p, presented := f } := by
    unfold State.leaveMode
    cases s.ppu.mode <;> dsimp only
    · generalize hu : s.setLy (s.ppu.ly + 1) = u
      split
      · subst hu; exact ⟨_, _, _, rfl⟩
      · rw [enterMode_eq]; subst hu; exact ⟨_, _, _, rfl⟩
    · generalize hu : s.setLy (s.ppu.ly + 1) = u
      split
      · rw [enterMode_eq]; subst hu; exact ⟨_, _, _, rfl⟩
      · rw [enterMode_eq]; subst hu; exact ⟨_, _, _, rfl⟩
    · exact ⟨_, _, _, enterMode_eq s _⟩
    · exact ⟨_, _, _, enterMode_eq s.compose _⟩
  obtain ⟨i, p, f, h⟩ := h
  rw [h]

theorem ppuLoop_eq (n : Nat) (s : State) :
    s.ppuLoop n = { s with iflag := (s.ppuLoop n).iflag, ppu := (s.ppuLoop n).ppu, presented := (s.ppuLoop n).presented } := by
  induction n generalizing s with
  | zero => rfl
  | succ n ih =>
    unfold State.ppuLoop
    split
    · rw [ih, leaveMode_eq]
    · rfl

/-- The PPU's update changes the PPU, IF and the presented frames only (R841, R849). -/
theorem ppuUpdate_eq (s : State) (c : Nat) :
    s.ppuUpdate c =
      { s with iflag := (s.ppuUpdate c).iflag, ppu := (s.ppuUpdate c).ppu, presented := (s.ppuUpdate c).presented } := by
  unfold State.ppuUpdate
  split
  · dsimp only
    rw [ppuLoop_eq]
    unfold State.lcdRestart
    split <;> rfl
  · rfl

/-- The loop stops below the length of its mode when its fuel covers the dots: every mode lasts 80 dots or more. -/
theorem ppuLoop_dots (n : Nat) (s : State) (h : s.ppu.dots < 80 * n) : (s.ppuLoop n).ppu.dots < (s.ppuLoop n).ppu.mode.length := by
  induction n generalizing s with
  | zero => omega
  | succ n ih =>
    unfold State.ppuLoop
    split
    · apply ih
      have hl : 80 ≤ s.ppu.mode.length := by cases s.ppu.mode <;> decide
      have hd : s.leaveMode.ppu.dots = s.ppu.dots - s.ppu.mode.length := by
        unfold State.leaveMode
        dsimp only
        split
        · rfl
        · rfl
        · split <;> rfl
        · split <;> rfl
      omega
    · omega

/-! ### Input and the opcode fetch -/

/-- A snapshot changes the buttons and IF only (R871). -/
theorem deliver_eq (s : State) (b : Buttons) :
    s.deliver b = { s with iflag := (s.deliver b).iflag, joypad := { s.joypad with buttons := b } } := by
  unfold State.deliver
  dsimp only
  split <;> rfl

@[simp] theorem deliver_input (s : State) (b : Buttons) : (s.deliver b).input = s.input := by rw [deliver_eq]

@[simp] theorem deliver_iter (s : State) (b : Buttons) : (s.deliver b).iter = s.iter := by rw [deliver_eq]

/-- The snapshots due change the buttons, IF and INPUT only (R872). -/
theorem deliverDue_eq (l : List (Nat × Buttons)) (s : State) :
    State.deliverDue l s = { s with iflag := (State.deliverDue l s).iflag, joypad := (State.deliverDue l s).joypad
                                    input := (State.deliverDue l s).input } := by
  induction l generalizing s with
  | nil => rfl
  | cons x l ih =>
    unfold State.deliverDue
    split
    · rw [ih, deliver_eq]
    · rfl

theorem applyInput_eq (s : State) :
    s.applyInput = { s with iflag := s.applyInput.iflag, joypad := s.applyInput.joypad, input := s.applyInput.input } :=
  deliverDue_eq s.input s

/-- The opcode fetch, all fields at once (R700, R702, R711). -/
theorem afterOpcodeFetch_eq (s : State) :
    s.afterOpcodeFetch =
      { s with regs := { s.regs with pc := if s.haltBug then s.regs.pc else s.regs.pc + 1 }, haltBug := false
               ime := s.ime || s.imePending, imePending := false, opAddr := s.regs.pc } := by
  cases hb : s.haltBug <;> cases hp : s.imePending <;> simp [State.afterOpcodeFetch, State.setPc, hb, hp]

/-! ### DMA and interrupts -/

/-- The DMA's bytes change memory and the DMA's own state only, and keep the canonical form (R861). -/
theorem dmaBytes_next {n : Nat} {s t : State} (h : State.dmaBytes n s = .next t) :
    t = { s with mem := t.mem, dma := t.dma } ∧ (s.mem.wf → t.mem.wf) := by
  induction n generalizing s with
  | zero =>
    unfold State.dmaBytes at h
    cases h
    split <;> exact ⟨rfl, id⟩
  | succ n ih =>
    unfold State.dmaBytes at h
    obtain ⟨v, -, h⟩ := dmaByteThen_next h
    obtain ⟨h1, h2⟩ := ih h
    refine ⟨h1, fun hs => h2 (Memory.wf_write _ _ _ hs)⟩

theorem dmaUpdate_next {c : Nat} {s t : State} (h : s.dmaUpdate c = .next t) :
    t = { s with mem := t.mem, dma := t.dma } ∧ (s.mem.wf → t.mem.wf) := by
  unfold State.dmaUpdate at h
  split at h
  · obtain ⟨h1, h2⟩ := dmaBytes_next h
    exact ⟨h1, h2⟩
  · cases h; exact ⟨rfl, id⟩

/-- The three units' updates change the PPU, the timer, IF, the presented frames, OAM and the DMA's state only (R880). -/
theorem unitsUpdate_next {c : Nat} {s t : State} (h : s.unitsUpdate c = .next t) :
    t = { s with iflag := t.iflag, timer := t.timer, ppu := t.ppu, presented := t.presented, mem := t.mem, dma := t.dma } ∧
      (s.mem.wf → t.mem.wf) := by
  unfold State.unitsUpdate at h
  obtain ⟨h1, h2⟩ := dmaUpdate_next h
  rw [timerUpdate_eq, ppuUpdate_eq] at h1 h2
  exact ⟨by rw [h1], h2⟩

/-- The interrupt handling ends a halt, dispatches, or does nothing (R819, R820). -/
theorem handleInterrupts_next {s t : State} (h : s.handleInterrupts = .next t) :
    t = { s with cycles := 0 } ∨ t = { s with halted := false, cycles := 0 } ∨
      ∃ i, s.firstPending = some i ∧ s.ime = true ∧ s.takeInterrupt i = .next t := by
  unfold State.handleInterrupts at h
  split at h
  · cases h; exact .inl rfl
  · next i hi =>
    split at h
    · next hm => exact .inr (.inr ⟨i, hi, hm, h⟩)
    · cases h; exact .inr (.inl rfl)

end Sys2Proof.Machine
end

