-- ==== Sys2Proof/Tests/Slice0.lean ====
section
/-! SUPPORT. The tests of the model: terms the well-formedness check refuses, the decoding of every constructor by words written from the
encodings of spec/opcode_table.json, single steps against the vectors of spec/95_test_vectors.md (their expected values are the spec's), and
for every statement with hypotheses a concrete state and operands that meet them. -/

namespace Sys2Proof.Tests

open Sys2Proof.Machine

/-! ### Well-formedness -/

theorem test_prefix_row_is_refused : Instr.wellFormed (.prefixCb 0x37) = false := by decide

theorem test_cb_row_is_well_formed : Instr.wellFormed .swapA = true := by decide

/-- The word of the refused term decodes to the CB row its sub-opcode selects (R313). -/
theorem test_prefix_word_decodes_to_cb_row : (decode [0xCB, 0x37]).toOption = some (.swapA, []) := rfl

/-! ### Decoding -/

/-- The instruction a whole list of bytes decodes to. -/
def one (bs : List Byte) : Option Instr :=
  match decode bs with
  | .ok (i, []) => some i
  | _ => none

def decodeAll (ws : List (List Byte)) : Option (List Instr) := ws.mapM one

theorem test_decode_op_row_0 :
    decodeAll
      [[0b00000000], [0b00000001, 0x34, 0x92], [0b00000010], [0b00000011], [0b00000100], [0b00000101], [0b00000110, 0x9A], [0b00000111],
       [0b00001000, 0x34, 0x92], [0b00001001], [0b00001010], [0b00001011], [0b00001100], [0b00001101], [0b00001110, 0x9A], [0b00001111]] =
    some
      [.nop, .ldBcN16 0x9234, .ldAtBcA, .incBc, .incB, .decB, .ldBN8 0x9A, .rlca, .ldAtA16Sp 0x9234, .addHlBc, .ldAAtBc, .decBc, .incC, .decC,
       .ldCN8 0x9A, .rrca] := rfl

theorem test_decode_op_row_1 :
    decodeAll
      [[0b00010000, 0x9A], [0b00010001, 0x34, 0x92], [0b00010010], [0b00010011], [0b00010100], [0b00010101], [0b00010110, 0x9A], [0b00010111],
       [0b00011000, 0x9A], [0b00011001], [0b00011010], [0b00011011], [0b00011100], [0b00011101], [0b00011110, 0x9A], [0b00011111]] =
    some
      [.stop 0x9A, .ldDeN16 0x9234, .ldAtDeA, .incDe, .incD, .decD, .ldDN8 0x9A, .rla, .jrE8 0x9A, .addHlDe, .ldAAtDe, .decDe, .incE, .decE,
       .ldEN8 0x9A, .rra] := rfl

theorem test_decode_op_row_2 :
    decodeAll
      [[0b00100000, 0x9A], [0b00100001, 0x34, 0x92], [0b00100010], [0b00100011], [0b00100100], [0b00100101], [0b00100110, 0x9A], [0b00100111],
       [0b00101000, 0x9A], [0b00101001], [0b00101010], [0b00101011], [0b00101100], [0b00101101], [0b00101110, 0x9A], [0b00101111]] =
    some
      [.jrNzE8 0x9A, .ldHlN16 0x9234, .ldAtHlIncA, .incHl, .incH, .decH, .ldHN8 0x9A, .daa, .jrZE8 0x9A, .addHlHl, .ldAAtHlInc, .decHl, .incL,
       .decL, .ldLN8 0x9A, .cpl] := rfl

theorem test_decode_op_row_3 :
    decodeAll
      [[0b00110000, 0x9A], [0b00110001, 0x34, 0x92], [0b00110010], [0b00110011], [0b00110100], [0b00110101], [0b00110110, 0x9A], [0b00110111],
       [0b00111000, 0x9A], [0b00111001], [0b00111010], [0b00111011], [0b00111100], [0b00111101], [0b00111110, 0x9A], [0b00111111]] =
    some
      [.jrNcE8 0x9A, .ldSpN16 0x9234, .ldAtHlDecA, .incSp, .incAtHl, .decAtHl, .ldAtHlN8 0x9A, .scf, .jrCE8 0x9A, .addHlSp, .ldAAtHlDec, .decSp,
       .incA, .decA, .ldAN8 0x9A, .ccf] := rfl

theorem test_decode_op_row_4 :
    decodeAll
      [[0b01000000], [0b01000001], [0b01000010], [0b01000011], [0b01000100], [0b01000101], [0b01000110], [0b01000111], [0b01001000], [0b01001001],
       [0b01001010], [0b01001011], [0b01001100], [0b01001101], [0b01001110], [0b01001111]] =
    some
      [.ldBB, .ldBC, .ldBD, .ldBE, .ldBH, .ldBL, .ldBAtHl, .ldBA, .ldCB, .ldCC, .ldCD, .ldCE, .ldCH, .ldCL, .ldCAtHl, .ldCA] := rfl

theorem test_decode_op_row_5 :
    decodeAll
      [[0b01010000], [0b01010001], [0b01010010], [0b01010011], [0b01010100], [0b01010101], [0b01010110], [0b01010111], [0b01011000], [0b01011001],
       [0b01011010], [0b01011011], [0b01011100], [0b01011101], [0b01011110], [0b01011111]] =
    some
      [.ldDB, .ldDC, .ldDD, .ldDE, .ldDH, .ldDL, .ldDAtHl, .ldDA, .ldEB, .ldEC, .ldED, .ldEE, .ldEH, .ldEL, .ldEAtHl, .ldEA] := rfl

theorem test_decode_op_row_6 :
    decodeAll
      [[0b01100000], [0b01100001], [0b01100010], [0b01100011], [0b01100100], [0b01100101], [0b01100110], [0b01100111], [0b01101000], [0b01101001],
       [0b01101010], [0b01101011], [0b01101100], [0b01101101], [0b01101110], [0b01101111]] =
    some
      [.ldHB, .ldHC, .ldHD, .ldHE, .ldHH, .ldHL, .ldHAtHl, .ldHA, .ldLB, .ldLC, .ldLD, .ldLE, .ldLH, .ldLL, .ldLAtHl, .ldLA] := rfl

theorem test_decode_op_row_7 :
    decodeAll
      [[0b01110000], [0b01110001], [0b01110010], [0b01110011], [0b01110100], [0b01110101], [0b01110110], [0b01110111], [0b01111000], [0b01111001],
       [0b01111010], [0b01111011], [0b01111100], [0b01111101], [0b01111110], [0b01111111]] =
    some
      [.ldAtHlB, .ldAtHlC, .ldAtHlD, .ldAtHlE, .ldAtHlH, .ldAtHlL, .halt, .ldAtHlA, .ldAB, .ldAC, .ldAD, .ldAE, .ldAH, .ldAL, .ldAAtHl, .ldAA] := rfl

theorem test_decode_op_row_8 :
    decodeAll
      [[0b10000000], [0b10000001], [0b10000010], [0b10000011], [0b10000100], [0b10000101], [0b10000110], [0b10000111], [0b10001000], [0b10001001],
       [0b10001010], [0b10001011], [0b10001100], [0b10001101], [0b10001110], [0b10001111]] =
    some
      [.addAB, .addAC, .addAD, .addAE, .addAH, .addAL, .addAAtHl, .addAA, .adcAB, .adcAC, .adcAD, .adcAE, .adcAH, .adcAL, .adcAAtHl, .adcAA] := rfl

theorem test_decode_op_row_9 :
    decodeAll
      [[0b10010000], [0b10010001], [0b10010010], [0b10010011], [0b10010100], [0b10010101], [0b10010110], [0b10010111], [0b10011000], [0b10011001],
       [0b10011010], [0b10011011], [0b10011100], [0b10011101], [0b10011110], [0b10011111]] =
    some
      [.subB, .subC, .subD, .subE, .subH, .subL, .subAtHl, .subA, .sbcAB, .sbcAC, .sbcAD, .sbcAE, .sbcAH, .sbcAL, .sbcAAtHl, .sbcAA] := rfl

theorem test_decode_op_row_A :
    decodeAll
      [[0b10100000], [0b10100001], [0b10100010], [0b10100011], [0b10100100], [0b10100101], [0b10100110], [0b10100111], [0b10101000], [0b10101001],
       [0b10101010], [0b10101011], [0b10101100], [0b10101101], [0b10101110], [0b10101111]] =
    some
      [.andB, .andC, .andD, .andE, .andH, .andL, .andAtHl, .andA, .xorB, .xorC, .xorD, .xorE, .xorH, .xorL, .xorAtHl, .xorA] := rfl

theorem test_decode_op_row_B :
    decodeAll
      [[0b10110000], [0b10110001], [0b10110010], [0b10110011], [0b10110100], [0b10110101], [0b10110110], [0b10110111], [0b10111000], [0b10111001],
       [0b10111010], [0b10111011], [0b10111100], [0b10111101], [0b10111110], [0b10111111]] =
    some
      [.orB, .orC, .orD, .orE, .orH, .orL, .orAtHl, .orA, .cpB, .cpC, .cpD, .cpE, .cpH, .cpL, .cpAtHl, .cpA] := rfl

theorem test_decode_op_row_C :
    decodeAll
      [[0b11000000], [0b11000001], [0b11000010, 0x34, 0x92], [0b11000011, 0x34, 0x92], [0b11000100, 0x34, 0x92], [0b11000101], [0b11000110, 0x9A],
       [0b11000111], [0b11001000], [0b11001001], [0b11001010, 0x34, 0x92], [0b11001100, 0x34, 0x92], [0b11001101, 0x34, 0x92], [0b11001110, 0x9A],
       [0b11001111]] =
    some
      [.retNz, .popBc, .jpNzA16 0x9234, .jpA16 0x9234, .callNzA16 0x9234, .pushBc, .addAN8 0x9A, .rst00, .retZ, .ret, .jpZA16 0x9234,
       .callZA16 0x9234, .callA16 0x9234, .adcAN8 0x9A, .rst08] := rfl

theorem test_decode_op_row_D :
    decodeAll
      [[0b11010000], [0b11010001], [0b11010010, 0x34, 0x92], [0b11010011], [0b11010100, 0x34, 0x92], [0b11010101], [0b11010110, 0x9A],
       [0b11010111], [0b11011000], [0b11011001], [0b11011010, 0x34, 0x92], [0b11011011], [0b11011100, 0x34, 0x92], [0b11011101],
       [0b11011110, 0x9A], [0b11011111]] =
    some
      [.retNc, .popDe, .jpNcA16 0x9234, .illegalD3, .callNcA16 0x9234, .pushDe, .subN8 0x9A, .rst10, .retC, .reti, .jpCA16 0x9234, .illegalDB,
       .callCA16 0x9234, .illegalDD, .sbcAN8 0x9A, .rst18] := rfl

theorem test_decode_op_row_E :
    decodeAll
      [[0b11100000, 0x9A], [0b11100001], [0b11100010], [0b11100011], [0b11100100], [0b11100101], [0b11100110, 0x9A], [0b11100111],
       [0b11101000, 0x9A], [0b11101001], [0b11101010, 0x34, 0x92], [0b11101011], [0b11101100], [0b11101101], [0b11101110, 0x9A], [0b11101111]] =
    some
      [.ldhAtA8A 0x9A, .popHl, .ldAtCA, .illegalE3, .illegalE4, .pushHl, .andN8 0x9A, .rst20, .addSpE8 0x9A, .jpHl, .ldAtA16A 0x9234, .illegalEB,
       .illegalEC, .illegalED, .xorN8 0x9A, .rst28] := rfl

theorem test_decode_op_row_F :
    decodeAll
      [[0b11110000, 0x9A], [0b11110001], [0b11110010], [0b11110011], [0b11110100], [0b11110101], [0b11110110, 0x9A], [0b11110111],
       [0b11111000, 0x9A], [0b11111001], [0b11111010, 0x34, 0x92], [0b11111011], [0b11111100], [0b11111101], [0b11111110, 0x9A], [0b11111111]] =
    some
      [.ldhAAtA8 0x9A, .popAf, .ldAAtC, .di, .illegalF4, .pushAf, .orN8 0x9A, .rst30, .ldHlSpE8 0x9A, .ldSpHl, .ldAAtA16 0x9234, .ei, .illegalFC,
       .illegalFD, .cpN8 0x9A, .rst38] := rfl

theorem test_decode_cb_row_0 :
    decodeAll
      [[0b11001011, 0b00000000], [0b11001011, 0b00000001], [0b11001011, 0b00000010], [0b11001011, 0b00000011], [0b11001011, 0b00000100],
       [0b11001011, 0b00000101], [0b11001011, 0b00000110], [0b11001011, 0b00000111], [0b11001011, 0b00001000], [0b11001011, 0b00001001],
       [0b11001011, 0b00001010], [0b11001011, 0b00001011], [0b11001011, 0b00001100], [0b11001011, 0b00001101], [0b11001011, 0b00001110],
       [0b11001011, 0b00001111]] =
    some
      [.rlcB, .rlcC, .rlcD, .rlcE, .rlcH, .rlcL, .rlcAtHl, .rlcA, .rrcB, .rrcC, .rrcD, .rrcE, .rrcH, .rrcL, .rrcAtHl, .rrcA] := rfl

theorem test_decode_cb_row_1 :
    decodeAll
      [[0b11001011, 0b00010000], [0b11001011, 0b00010001], [0b11001011, 0b00010010], [0b11001011, 0b00010011], [0b11001011, 0b00010100],
       [0b11001011, 0b00010101], [0b11001011, 0b00010110], [0b11001011, 0b00010111], [0b11001011, 0b00011000], [0b11001011, 0b00011001],
       [0b11001011, 0b00011010], [0b11001011, 0b00011011], [0b11001011, 0b00011100], [0b11001011, 0b00011101], [0b11001011, 0b00011110],
       [0b11001011, 0b00011111]] =
    some
      [.rlB, .rlC, .rlD, .rlE, .rlH, .rlL, .rlAtHl, .rlA, .rrB, .rrC, .rrD, .rrE, .rrH, .rrL, .rrAtHl, .rrA] := rfl

theorem test_decode_cb_row_2 :
    decodeAll
      [[0b11001011, 0b00100000], [0b11001011, 0b00100001], [0b11001011, 0b00100010], [0b11001011, 0b00100011], [0b11001011, 0b00100100],
       [0b11001011, 0b00100101], [0b11001011, 0b00100110], [0b11001011, 0b00100111], [0b11001011, 0b00101000], [0b11001011, 0b00101001],
       [0b11001011, 0b00101010], [0b11001011, 0b00101011], [0b11001011, 0b00101100], [0b11001011, 0b00101101], [0b11001011, 0b00101110],
       [0b11001011, 0b00101111]] =
    some
      [.slaB, .slaC, .slaD, .slaE, .slaH, .slaL, .slaAtHl, .slaA, .sraB, .sraC, .sraD, .sraE, .sraH, .sraL, .sraAtHl, .sraA] := rfl

theorem test_decode_cb_row_3 :
    decodeAll
      [[0b11001011, 0b00110000], [0b11001011, 0b00110001], [0b11001011, 0b00110010], [0b11001011, 0b00110011], [0b11001011, 0b00110100],
       [0b11001011, 0b00110101], [0b11001011, 0b00110110], [0b11001011, 0b00110111], [0b11001011, 0b00111000], [0b11001011, 0b00111001],
       [0b11001011, 0b00111010], [0b11001011, 0b00111011], [0b11001011, 0b00111100], [0b11001011, 0b00111101], [0b11001011, 0b00111110],
       [0b11001011, 0b00111111]] =
    some
      [.swapB, .swapC, .swapD, .swapE, .swapH, .swapL, .swapAtHl, .swapA, .srlB, .srlC, .srlD, .srlE, .srlH, .srlL, .srlAtHl, .srlA] := rfl

theorem test_decode_cb_row_4 :
    decodeAll
      [[0b11001011, 0b01000000], [0b11001011, 0b01000001], [0b11001011, 0b01000010], [0b11001011, 0b01000011], [0b11001011, 0b01000100],
       [0b11001011, 0b01000101], [0b11001011, 0b01000110], [0b11001011, 0b01000111], [0b11001011, 0b01001000], [0b11001011, 0b01001001],
       [0b11001011, 0b01001010], [0b11001011, 0b01001011], [0b11001011, 0b01001100], [0b11001011, 0b01001101], [0b11001011, 0b01001110],
       [0b11001011, 0b01001111]] =
    some
      [.bit0B, .bit0C, .bit0D, .bit0E, .bit0H, .bit0L, .bit0AtHl, .bit0A, .bit1B, .bit1C, .bit1D, .bit1E, .bit1H, .bit1L, .bit1AtHl, .bit1A] := rfl

theorem test_decode_cb_row_5 :
    decodeAll
      [[0b11001011, 0b01010000], [0b11001011, 0b01010001], [0b11001011, 0b01010010], [0b11001011, 0b01010011], [0b11001011, 0b01010100],
       [0b11001011, 0b01010101], [0b11001011, 0b01010110], [0b11001011, 0b01010111], [0b11001011, 0b01011000], [0b11001011, 0b01011001],
       [0b11001011, 0b01011010], [0b11001011, 0b01011011], [0b11001011, 0b01011100], [0b11001011, 0b01011101], [0b11001011, 0b01011110],
       [0b11001011, 0b01011111]] =
    some
      [.bit2B, .bit2C, .bit2D, .bit2E, .bit2H, .bit2L, .bit2AtHl, .bit2A, .bit3B, .bit3C, .bit3D, .bit3E, .bit3H, .bit3L, .bit3AtHl, .bit3A] := rfl

theorem test_decode_cb_row_6 :
    decodeAll
      [[0b11001011, 0b01100000], [0b11001011, 0b01100001], [0b11001011, 0b01100010], [0b11001011, 0b01100011], [0b11001011, 0b01100100],
       [0b11001011, 0b01100101], [0b11001011, 0b01100110], [0b11001011, 0b01100111], [0b11001011, 0b01101000], [0b11001011, 0b01101001],
       [0b11001011, 0b01101010], [0b11001011, 0b01101011], [0b11001011, 0b01101100], [0b11001011, 0b01101101], [0b11001011, 0b01101110],
       [0b11001011, 0b01101111]] =
    some
      [.bit4B, .bit4C, .bit4D, .bit4E, .bit4H, .bit4L, .bit4AtHl, .bit4A, .bit5B, .bit5C, .bit5D, .bit5E, .bit5H, .bit5L, .bit5AtHl, .bit5A] := rfl

theorem test_decode_cb_row_7 :
    decodeAll
      [[0b11001011, 0b01110000], [0b11001011, 0b01110001], [0b11001011, 0b01110010], [0b11001011, 0b01110011], [0b11001011, 0b01110100],
       [0b11001011, 0b01110101], [0b11001011, 0b01110110], [0b11001011, 0b01110111], [0b11001011, 0b01111000], [0b11001011, 0b01111001],
       [0b11001011, 0b01111010], [0b11001011, 0b01111011], [0b11001011, 0b01111100], [0b11001011, 0b01111101], [0b11001011, 0b01111110],
       [0b11001011, 0b01111111]] =
    some
      [.bit6B, .bit6C, .bit6D, .bit6E, .bit6H, .bit6L, .bit6AtHl, .bit6A, .bit7B, .bit7C, .bit7D, .bit7E, .bit7H, .bit7L, .bit7AtHl, .bit7A] := rfl

theorem test_decode_cb_row_8 :
    decodeAll
      [[0b11001011, 0b10000000], [0b11001011, 0b10000001], [0b11001011, 0b10000010], [0b11001011, 0b10000011], [0b11001011, 0b10000100],
       [0b11001011, 0b10000101], [0b11001011, 0b10000110], [0b11001011, 0b10000111], [0b11001011, 0b10001000], [0b11001011, 0b10001001],
       [0b11001011, 0b10001010], [0b11001011, 0b10001011], [0b11001011, 0b10001100], [0b11001011, 0b10001101], [0b11001011, 0b10001110],
       [0b11001011, 0b10001111]] =
    some
      [.res0B, .res0C, .res0D, .res0E, .res0H, .res0L, .res0AtHl, .res0A, .res1B, .res1C, .res1D, .res1E, .res1H, .res1L, .res1AtHl, .res1A] := rfl

theorem test_decode_cb_row_9 :
    decodeAll
      [[0b11001011, 0b10010000], [0b11001011, 0b10010001], [0b11001011, 0b10010010], [0b11001011, 0b10010011], [0b11001011, 0b10010100],
       [0b11001011, 0b10010101], [0b11001011, 0b10010110], [0b11001011, 0b10010111], [0b11001011, 0b10011000], [0b11001011, 0b10011001],
       [0b11001011, 0b10011010], [0b11001011, 0b10011011], [0b11001011, 0b10011100], [0b11001011, 0b10011101], [0b11001011, 0b10011110],
       [0b11001011, 0b10011111]] =
    some
      [.res2B, .res2C, .res2D, .res2E, .res2H, .res2L, .res2AtHl, .res2A, .res3B, .res3C, .res3D, .res3E, .res3H, .res3L, .res3AtHl, .res3A] := rfl

theorem test_decode_cb_row_A :
    decodeAll
      [[0b11001011, 0b10100000], [0b11001011, 0b10100001], [0b11001011, 0b10100010], [0b11001011, 0b10100011], [0b11001011, 0b10100100],
       [0b11001011, 0b10100101], [0b11001011, 0b10100110], [0b11001011, 0b10100111], [0b11001011, 0b10101000], [0b11001011, 0b10101001],
       [0b11001011, 0b10101010], [0b11001011, 0b10101011], [0b11001011, 0b10101100], [0b11001011, 0b10101101], [0b11001011, 0b10101110],
       [0b11001011, 0b10101111]] =
    some
      [.res4B, .res4C, .res4D, .res4E, .res4H, .res4L, .res4AtHl, .res4A, .res5B, .res5C, .res5D, .res5E, .res5H, .res5L, .res5AtHl, .res5A] := rfl

theorem test_decode_cb_row_B :
    decodeAll
      [[0b11001011, 0b10110000], [0b11001011, 0b10110001], [0b11001011, 0b10110010], [0b11001011, 0b10110011], [0b11001011, 0b10110100],
       [0b11001011, 0b10110101], [0b11001011, 0b10110110], [0b11001011, 0b10110111], [0b11001011, 0b10111000], [0b11001011, 0b10111001],
       [0b11001011, 0b10111010], [0b11001011, 0b10111011], [0b11001011, 0b10111100], [0b11001011, 0b10111101], [0b11001011, 0b10111110],
       [0b11001011, 0b10111111]] =
    some
      [.res6B, .res6C, .res6D, .res6E, .res6H, .res6L, .res6AtHl, .res6A, .res7B, .res7C, .res7D, .res7E, .res7H, .res7L, .res7AtHl, .res7A] := rfl

theorem test_decode_cb_row_C :
    decodeAll
      [[0b11001011, 0b11000000], [0b11001011, 0b11000001], [0b11001011, 0b11000010], [0b11001011, 0b11000011], [0b11001011, 0b11000100],
       [0b11001011, 0b11000101], [0b11001011, 0b11000110], [0b11001011, 0b11000111], [0b11001011, 0b11001000], [0b11001011, 0b11001001],
       [0b11001011, 0b11001010], [0b11001011, 0b11001011], [0b11001011, 0b11001100], [0b11001011, 0b11001101], [0b11001011, 0b11001110],
       [0b11001011, 0b11001111]] =
    some
      [.set0B, .set0C, .set0D, .set0E, .set0H, .set0L, .set0AtHl, .set0A, .set1B, .set1C, .set1D, .set1E, .set1H, .set1L, .set1AtHl, .set1A] := rfl

theorem test_decode_cb_row_D :
    decodeAll
      [[0b11001011, 0b11010000], [0b11001011, 0b11010001], [0b11001011, 0b11010010], [0b11001011, 0b11010011], [0b11001011, 0b11010100],
       [0b11001011, 0b11010101], [0b11001011, 0b11010110], [0b11001011, 0b11010111], [0b11001011, 0b11011000], [0b11001011, 0b11011001],
       [0b11001011, 0b11011010], [0b11001011, 0b11011011], [0b11001011, 0b11011100], [0b11001011, 0b11011101], [0b11001011, 0b11011110],
       [0b11001011, 0b11011111]] =
    some
      [.set2B, .set2C, .set2D, .set2E, .set2H, .set2L, .set2AtHl, .set2A, .set3B, .set3C, .set3D, .set3E, .set3H, .set3L, .set3AtHl, .set3A] := rfl

theorem test_decode_cb_row_E :
    decodeAll
      [[0b11001011, 0b11100000], [0b11001011, 0b11100001], [0b11001011, 0b11100010], [0b11001011, 0b11100011], [0b11001011, 0b11100100],
       [0b11001011, 0b11100101], [0b11001011, 0b11100110], [0b11001011, 0b11100111], [0b11001011, 0b11101000], [0b11001011, 0b11101001],
       [0b11001011, 0b11101010], [0b11001011, 0b11101011], [0b11001011, 0b11101100], [0b11001011, 0b11101101], [0b11001011, 0b11101110],
       [0b11001011, 0b11101111]] =
    some
      [.set4B, .set4C, .set4D, .set4E, .set4H, .set4L, .set4AtHl, .set4A, .set5B, .set5C, .set5D, .set5E, .set5H, .set5L, .set5AtHl, .set5A] := rfl

theorem test_decode_cb_row_F :
    decodeAll
      [[0b11001011, 0b11110000], [0b11001011, 0b11110001], [0b11001011, 0b11110010], [0b11001011, 0b11110011], [0b11001011, 0b11110100],
       [0b11001011, 0b11110101], [0b11001011, 0b11110110], [0b11001011, 0b11110111], [0b11001011, 0b11111000], [0b11001011, 0b11111001],
       [0b11001011, 0b11111010], [0b11001011, 0b11111011], [0b11001011, 0b11111100], [0b11001011, 0b11111101], [0b11001011, 0b11111110],
       [0b11001011, 0b11111111]] =
    some
      [.set6B, .set6C, .set6D, .set6E, .set6H, .set6L, .set6AtHl, .set6A, .set7B, .set7C, .set7D, .set7E, .set7H, .set7L, .set7AtHl, .set7A] := rfl

theorem test_decode_needs_its_bytes : one [] = none ∧ one [0xCB] = none ∧ one [0x3E] = none ∧ one [0xC3, 0x00] = none := ⟨rfl, rfl, rfl, rfl⟩

/-- The table numbers a CB row with the prefix in bits 15:8 (R604), every other row from its first byte. -/
theorem test_decode_table_words :
    decodeTableWord 16 0xCB37 = some .swapA ∧ decodeTableWord 8 0x3E = some (.ldAN8 0x00) ∧
      decodeTableWord 8 0xC3 = some (.jpA16 0x0000) := ⟨rfl, rfl, rfl⟩

/-! ### The vectors: one CPU step -/

/-- The registers of reset (R160), with PC at the vectors' code. -/
def r0 : Regs := { State.reset.regs with pc := 0xC000 }

/-- The reset state with registers, cells, and code at an address. -/
def start (pc : Word) (code : List Byte) (r : Regs) (cells : List (Nat × Byte)) : State :=
  State.placeAt
    { State.reset with regs := { r with pc := pc }, mem := cells.foldl (fun m c => m.write c.1 c.2) [] } pc code

/-- The registers after a CPU step, its cycles, and what else the vector names. -/
def outcome (s : State) (look : State → List Nat) : Option (Regs × Nat × List Nat) :=
  match s.cpuStep with
  | .next t => some (t.regs, t.cycles, look t)
  | _ => none

/-- V1 (R400). -/
theorem test_V1 :
    outcome (start 0xC000 [0x78] { r0 with b := 0x12 } []) (fun _ => []) =
      some ({ r0 with b := 0x12, pc := 0xC001, a := 0x12 }, 4, []) := by decide

/-- V3 (R401). -/
theorem test_V3 :
    outcome (start 0xC000 [0x66] { r0 with h := 0xC1, l := 0x00 } [(0xC100, 0x99)]) (fun _ => []) =
      some ({ r0 with h := 0x99, l := 0x00, pc := 0xC001 }, 8, []) := by decide

/-- V4 (R402). -/
theorem test_V4 :
    outcome (start 0xC000 [0x75] { r0 with h := 0xC1, l := 0x23 } []) (fun t => [(t.mem.read 0xC123).toNat]) =
      some ({ r0 with h := 0xC1, l := 0x23, pc := 0xC001 }, 8, [0x23]) := by decide

/-- V5 (R403). -/
theorem test_V5 :
    outcome (start 0xC000 [0x3E, 0x05] r0 []) (fun _ => []) =
      some ({ r0 with pc := 0xC002, a := 0x05 }, 8, []) := by decide

/-- V6 (R404). -/
theorem test_V6 :
    outcome (start 0xC000 [0x36, 0x99] { r0 with h := 0xC0, l := 0x10 } []) (fun t => [(t.mem.read 0xC010).toNat]) =
      some ({ r0 with h := 0xC0, l := 0x10, pc := 0xC002 }, 12, [0x99]) := by decide

/-- V8 (R405). -/
theorem test_V8 :
    outcome (start 0xC000 [0x0A] { r0 with b := 0xC1, c := 0x00 } [(0xC100, 0x03)]) (fun _ => []) =
      some ({ r0 with b := 0xC1, c := 0x00, pc := 0xC001, a := 0x03 }, 8, []) := by decide

/-- V9 (R406). -/
theorem test_V9 :
    outcome (start 0xC000 [0x1A] { r0 with d := 0xE1, e := 0x00 } [(0xC100, 0x07)]) (fun _ => []) =
      some ({ r0 with d := 0xE1, e := 0x00, pc := 0xC001, a := 0x07 }, 8, []) := by decide

/-- V10 (R407). -/
theorem test_V10 :
    outcome (start 0xC000 [0x02] { r0 with a := 0x5A, b := 0xE0, c := 0x10 } []) (fun t => [(t.mem.read 0xC010).toNat]) =
      some ({ r0 with a := 0x5A, b := 0xE0, c := 0x10, pc := 0xC001 }, 8, [0x5A]) := by decide

/-- V11 (R408). -/
theorem test_V11 :
    outcome (start 0xC000 [0x12] { r0 with a := 0x01, d := 0xFE, e := 0xA0 } []) (fun _ => []) =
      some ({ r0 with a := 0x01, d := 0xFE, e := 0xA0, pc := 0xC001 }, 8, []) := by decide

/-- V13 (R409). -/
theorem test_V13 :
    outcome (start 0xC000 [0xFA, 0x10, 0xFF] r0 []) (fun _ => []) =
      some ({ r0 with pc := 0xC003, a := 0xFF }, 16, []) := by decide

/-- V14 (R410). -/
theorem test_V14 :
    outcome (start 0xC000 [0xEA, 0x80, 0xFF] { r0 with a := 0x3C } []) (fun t => [(t.mem.read 0xFF80).toNat]) =
      some ({ r0 with a := 0x3C, pc := 0xC003 }, 16, [0x3C]) := by decide

/-- V15 (R411). -/
theorem test_V15 :
    outcome ({ start 0xC000 [0xF0, 0x44] r0 [] with ppu := { State.reset.ppu with ly := 0x90 } }) (fun _ => []) =
      some ({ r0 with pc := 0xC002, a := 0x90 }, 12, []) := by decide

/-- V17 (R412). -/
theorem test_V17 :
    outcome (start 0xC000 [0xE0, 0xFF] { r0 with a := 0x04 } []) (fun t => [t.ie.toNat]) =
      some ({ r0 with a := 0x04, pc := 0xC002 }, 12, [0x04]) := by decide

/-- V18 (R412). -/
theorem test_V18 :
    outcome (start 0xC000 [0xE0, 0x04] { r0 with a := 0x77 } []) (fun t => [t.timer.div.toNat]) =
      some ({ r0 with a := 0x77, pc := 0xC002 }, 12, [0x00]) := by decide

/-- V20 (R413). -/
theorem test_V20 :
    outcome ({ start 0xC000 [0xF2] { r0 with c := 0x0F } [] with iflag := 0x15 }) (fun _ => []) =
      some ({ r0 with c := 0x0F, pc := 0xC001, a := 0x15 }, 8, []) := by decide

/-- V21 (R414). -/
theorem test_V21 :
    outcome (start 0xC000 [0xE2] { r0 with c := 0x80, a := 0x3C } []) (fun t => [(t.mem.read 0xFF80).toNat]) =
      some ({ r0 with c := 0x80, a := 0x3C, pc := 0xC001 }, 8, [0x3C]) := by decide

/-- V22 (R415). -/
theorem test_V22 :
    outcome ({ start 0xC000 [0x2A] { r0 with h := 0xFF, l := 0xFF } [] with ie := 0x1F }) (fun _ => []) =
      some ({ r0 with h := 0x00, l := 0x00, pc := 0xC001, a := 0x1F }, 8, []) := by decide

/-- V23 (R416). -/
theorem test_V23 :
    outcome (start 0xC000 [0x3A] { r0 with h := 0xC0, l := 0x01 } [(0xC001, 0x22)]) (fun _ => []) =
      some ({ r0 with h := 0xC0, l := 0x00, pc := 0xC001, a := 0x22 }, 8, []) := by decide

/-- V24 (R417). -/
theorem test_V24 :
    outcome (start 0xC000 [0x22] { r0 with h := 0xC0, l := 0xFF, a := 0x00 } [(0xC0FF, 0x55)]) (fun t => [(t.mem.read 0xC0FF).toNat]) =
      some ({ r0 with h := 0xC1, l := 0x00, a := 0x00, pc := 0xC001 }, 8, [0x00]) := by decide

/-- V25 (R418). -/
theorem test_V25 :
    outcome (start 0xC000 [0x32] { r0 with h := 0xDF, l := 0xFF, a := 0xAA } []) (fun t => [(t.mem.read 0xDFFF).toNat]) =
      some ({ r0 with h := 0xDF, l := 0xFE, a := 0xAA, pc := 0xC001 }, 8, [0xAA]) := by decide

/-- V26 (R401). -/
theorem test_V26 :
    outcome ({ start 0xC000 [0x7E] { r0 with h := 0x80, l := 0x00 } [(0x8000, 0x12)] with ppu := { State.reset.ppu with mode := .draw } }) (fun _ => []) =
      some ({ r0 with h := 0x80, l := 0x00, pc := 0xC001, a := 0xFF }, 8, []) := by decide

/-- V27 (R402). -/
theorem test_V27 :
    outcome (start 0xC000 [0x77] { r0 with h := 0xFE, l := 0x00, a := 0x33 } []) (fun _ => []) =
      some ({ r0 with h := 0xFE, l := 0x00, a := 0x33, pc := 0xC001 }, 8, []) := by decide

/-- V30 (R406). -/
theorem test_V30 :
    outcome ({ start 0xC000 [0x1A] { r0 with d := 0xFF, e := 0x80 } [(0xFF80, 0x07)] with dma := { State.reset.dma with active := true } }) (fun t => [(t.mem.read 0xFFFC).toNat, (t.mem.read 0xFFFD).toNat]) =
      some ({ r0 with d := 0xFF, e := 0x80, pc := 0x0038, sp := 0xFFFC }, 16, [0x01, 0xC0]) := by decide

/-- V41 (R450). -/
theorem test_V41 :
    outcome (start 0xC000 [0x21, 0x00, 0xC0] r0 []) (fun _ => []) =
      some ({ r0 with pc := 0xC003, h := 0xC0, l := 0x00 }, 12, []) := by decide

/-- V42 (R451). -/
theorem test_V42 :
    outcome (start 0xC000 [0x08, 0x00, 0xC0] { r0 with sp := 0xFFF8 } []) (fun t => [(t.mem.read 0xC000).toNat, (t.mem.read 0xC001).toNat]) =
      some ({ r0 with sp := 0xFFF8, pc := 0xC003 }, 20, [0xF8, 0xFF]) := by decide

/-- V43 (R451). -/
theorem test_V43 :
    outcome (start 0xC000 [0x08, 0xFF, 0xFF] { r0 with sp := 0x1234 } []) (fun t => [t.ie.toNat]) =
      some ({ r0 with sp := 0x1234, pc := 0xC003 }, 20, [0x34]) := by decide

/-- V44 (R452). -/
theorem test_V44 :
    outcome (start 0xC000 [0xF9] { r0 with h := 0xDF, l := 0xF0 } []) (fun _ => []) =
      some ({ r0 with h := 0xDF, l := 0xF0, pc := 0xC001, sp := 0xDFF0 }, 8, []) := by decide

/-- V46 (R453). -/
theorem test_V46 :
    outcome (start 0xC000 [0xF8, 0xFF] { r0 with sp := 0x0001 } []) (fun _ => []) =
      some ({ r0 with sp := 0x0001, pc := 0xC002, f := 0x30, h := 0x00, l := 0x00 }, 12, []) := by decide

/-- V48 (R454). -/
theorem test_V48 :
    outcome (start 0xC000 [0xC5] { r0 with b := 0x12, c := 0x34 } []) (fun t => [(t.mem.read 0xFFFC).toNat, (t.mem.read 0xFFFD).toNat]) =
      some ({ r0 with b := 0x12, c := 0x34, pc := 0xC001, sp := 0xFFFC }, 16, [0x34, 0x12]) := by decide

/-- V49 (R454). -/
theorem test_V49 :
    outcome (start 0xC000 [0xD5] { r0 with sp := 0x0000, d := 0xAB, e := 0xCD } []) (fun t => [t.ie.toNat, (t.mem.read 0xFFFE).toNat]) =
      some ({ r0 with sp := 0xFFFE, d := 0xAB, e := 0xCD, pc := 0xC001 }, 16, [0xAB, 0xCD]) := by decide

/-- V50 (R455). -/
theorem test_V50 :
    outcome (start 0xC000 [0xF5] r0 []) (fun t => [(t.mem.read 0xFFFC).toNat, (t.mem.read 0xFFFD).toNat]) =
      some ({ r0 with pc := 0xC001, sp := 0xFFFC }, 16, [0xB0, 0x01]) := by decide

/-- V51 (R456). -/
theorem test_V51 :
    outcome (start 0xC000 [0xC1] { r0 with sp := 0xFFFC } [(0xFFFC, 0x34), (0xFFFD, 0x12)]) (fun _ => []) =
      some ({ r0 with sp := 0xFFFE, pc := 0xC001, b := 0x12, c := 0x34 }, 12, []) := by decide

/-- V52 (R457). -/
theorem test_V52 :
    outcome (start 0xC000 [0xF1] { r0 with sp := 0xFFFC } [(0xFFFC, 0xFF), (0xFFFD, 0x12)]) (fun _ => []) =
      some ({ r0 with sp := 0xFFFE, pc := 0xC001, a := 0x12, f := 0xF0 }, 12, []) := by decide

/-- V61 (R502). -/
theorem test_V61 :
    outcome (start 0xC000 [0x87] { r0 with a := 0x88 } []) (fun _ => []) =
      some ({ r0 with a := 0x10, pc := 0xC001, f := 0x30 }, 4, []) := by decide

/-- V62 (R503). -/
theorem test_V62 :
    outcome (start 0xC000 [0x86] { r0 with a := 0x0F, h := 0xC0, l := 0x00 } [(0xC000, 0x86)]) (fun _ => []) =
      some ({ r0 with a := 0x95, h := 0xC0, l := 0x00, pc := 0xC001, f := 0x20 }, 8, []) := by decide

/-- V63 (R504). -/
theorem test_V63 :
    outcome (start 0xC000 [0xC6, 0x01] { r0 with a := 0xFF } []) (fun _ => []) =
      some ({ r0 with a := 0x00, pc := 0xC002 }, 8, []) := by decide

/-- V64 (R505). -/
theorem test_V64 :
    outcome (start 0xC000 [0x89] { r0 with a := 0xE1, c := 0x0F, f := 0x10 } []) (fun _ => []) =
      some ({ r0 with a := 0xF1, c := 0x0F, f := 0x20, pc := 0xC001 }, 4, []) := by decide

/-- V65 (R507). -/
theorem test_V65 :
    outcome (start 0xC000 [0xCE, 0x00] { r0 with a := 0xFF, f := 0x10 } []) (fun _ => []) =
      some ({ r0 with a := 0x00, f := 0xB0, pc := 0xC002 }, 8, []) := by decide

/-- V67 (R508). -/
theorem test_V67 :
    outcome (start 0xC000 [0x90] { r0 with a := 0x3E, b := 0x0F } []) (fun _ => []) =
      some ({ r0 with a := 0x2F, b := 0x0F, pc := 0xC001, f := 0x60 }, 4, []) := by decide

/-- V68 (R510). -/
theorem test_V68 :
    outcome (start 0xC000 [0xD6, 0x40] { r0 with a := 0x3E } []) (fun _ => []) =
      some ({ r0 with a := 0xFE, pc := 0xC002, f := 0x50 }, 8, []) := by decide

/-- V69 (R511). -/
theorem test_V69 :
    outcome (start 0xC000 [0x98] { r0 with a := 0x3B, b := 0x2A, f := 0x10 } []) (fun _ => []) =
      some ({ r0 with a := 0x10, b := 0x2A, f := 0x40, pc := 0xC001 }, 4, []) := by decide

/-- V70 (R513). -/
theorem test_V70 :
    outcome (start 0xC000 [0xDE, 0xFF] { r0 with a := 0x00, f := 0x10 } []) (fun _ => []) =
      some ({ r0 with a := 0x00, f := 0xF0, pc := 0xC002 }, 8, []) := by decide

/-- V71 (R514). -/
theorem test_V71 :
    outcome (start 0xC000 [0xA0] { r0 with a := 0x5A, b := 0x3F } []) (fun _ => []) =
      some ({ r0 with a := 0x1A, b := 0x3F, pc := 0xC001, f := 0x20 }, 4, []) := by decide

/-- V72 (R516). -/
theorem test_V72 :
    outcome (start 0xC000 [0xE6, 0x00] { r0 with a := 0xFF } []) (fun _ => []) =
      some ({ r0 with a := 0x00, pc := 0xC002, f := 0xA0 }, 8, []) := by decide

/-- V73 (R517). -/
theorem test_V73 :
    outcome (start 0xC000 [0xAF] { r0 with a := 0x77 } []) (fun _ => []) =
      some ({ r0 with a := 0x00, pc := 0xC001, f := 0x80 }, 4, []) := by decide

/-- V74 (R520). -/
theorem test_V74 :
    outcome (start 0xC000 [0xB1] { r0 with a := 0x00, c := 0x00, f := 0x70 } []) (fun _ => []) =
      some ({ r0 with a := 0x00, c := 0x00, f := 0x80, pc := 0xC001 }, 4, []) := by decide

/-- V75 (R523). -/
theorem test_V75 :
    outcome (start 0xC000 [0xB8] { r0 with a := 0x3C, b := 0x2F } []) (fun _ => []) =
      some ({ r0 with a := 0x3C, b := 0x2F, pc := 0xC001, f := 0x60 }, 4, []) := by decide

/-- V77 (R525). -/
theorem test_V77 :
    outcome (start 0xC000 [0xFE, 0x40] { r0 with a := 0x3C } []) (fun _ => []) =
      some ({ r0 with a := 0x3C, pc := 0xC002, f := 0x50 }, 8, []) := by decide

/-- V79 (R526). -/
theorem test_V79 :
    outcome (start 0xC000 [0x04] { r0 with b := 0x0F, f := 0x10 } []) (fun _ => []) =
      some ({ r0 with b := 0x10, f := 0x30, pc := 0xC001 }, 4, []) := by decide

/-- V80 (R527). -/
theorem test_V80 :
    outcome (start 0xC000 [0x34] { r0 with h := 0xC1, l := 0x00 } [(0xC100, 0x50)]) (fun t => [(t.mem.read 0xC100).toNat]) =
      some ({ r0 with h := 0xC1, l := 0x00, pc := 0xC001, f := 0x10 }, 12, [0x51]) := by decide

/-- V82 (R528). -/
theorem test_V82 :
    outcome (start 0xC000 [0x0D] { r0 with c := 0x00, f := 0x00 } []) (fun _ => []) =
      some ({ r0 with c := 0xFF, f := 0x60, pc := 0xC001 }, 4, []) := by decide

/-- V84 (R529). -/
theorem test_V84 :
    outcome (start 0xC000 [0x35] { r0 with h := 0xC1, l := 0x00 } [(0xC100, 0x00)]) (fun t => [(t.mem.read 0xC100).toNat]) =
      some ({ r0 with h := 0xC1, l := 0x00, pc := 0xC001, f := 0x70 }, 12, [0xFF]) := by decide

/-- V86 (R530). -/
theorem test_V86 :
    outcome (start 0xC000 [0x27] { r0 with a := 0x0A, f := 0x00 } []) (fun _ => []) =
      some ({ r0 with a := 0x10, f := 0x00, pc := 0xC001 }, 4, []) := by decide

/-- V87 (R530). -/
theorem test_V87 :
    outcome (start 0xC000 [0x27] { r0 with a := 0x9A, f := 0x00 } []) (fun _ => []) =
      some ({ r0 with a := 0x00, f := 0x90, pc := 0xC001 }, 4, []) := by decide

/-- V89 (R530). -/
theorem test_V89 :
    outcome (start 0xC000 [0x27] { r0 with a := 0xFA, f := 0x60 } []) (fun _ => []) =
      some ({ r0 with a := 0xF4, f := 0x40, pc := 0xC001 }, 4, []) := by decide

/-- V90 (R530). -/
theorem test_V90 :
    outcome (start 0xC000 [0x27] { r0 with a := 0xA0, f := 0x50 } []) (fun _ => []) =
      some ({ r0 with a := 0x40, f := 0x50, pc := 0xC001 }, 4, []) := by decide

/-- V91 (R531). -/
theorem test_V91 :
    outcome (start 0xC000 [0x2F] { r0 with a := 0x35, f := 0x00 } []) (fun _ => []) =
      some ({ r0 with a := 0xCA, f := 0x60, pc := 0xC001 }, 4, []) := by decide

/-- V92 (R532). -/
theorem test_V92 :
    outcome (start 0xC000 [0x37] { r0 with f := 0xE0 } []) (fun _ => []) =
      some ({ r0 with f := 0x90, pc := 0xC001 }, 4, []) := by decide

/-- V93 (R533). -/
theorem test_V93 :
    outcome (start 0xC000 [0x3F] { r0 with f := 0x70 } []) (fun _ => []) =
      some ({ r0 with f := 0x00, pc := 0xC001 }, 4, []) := by decide

/-- V100 (R561). -/
theorem test_V100 :
    outcome (start 0xC000 [0x13] { r0 with d := 0x23, e := 0x5F } []) (fun _ => []) =
      some ({ r0 with d := 0x23, e := 0x60, pc := 0xC001 }, 8, []) := by decide

/-- V101 (R561). -/
theorem test_V101 :
    outcome (start 0xC000 [0x33] { r0 with sp := 0xFFFF } []) (fun _ => []) =
      some ({ r0 with sp := 0x0000, pc := 0xC001 }, 8, []) := by decide

/-- V102 (R562). -/
theorem test_V102 :
    outcome (start 0xC000 [0x0B] { r0 with b := 0x00, c := 0x00 } []) (fun _ => []) =
      some ({ r0 with b := 0xFF, c := 0xFF, pc := 0xC001 }, 8, []) := by decide

/-- V104 (R563). -/
theorem test_V104 :
    outcome (start 0xC000 [0x19] { r0 with h := 0xFF, l := 0xFF, d := 0x00, e := 0x01, f := 0x80 } []) (fun _ => []) =
      some ({ r0 with h := 0x00, l := 0x00, d := 0x00, e := 0x01, f := 0xB0, pc := 0xC001 }, 8, []) := by decide

/-- V105 (R563). -/
theorem test_V105 :
    outcome (start 0xC000 [0x29] { r0 with h := 0x8A, l := 0x23, f := 0x00 } []) (fun _ => []) =
      some ({ r0 with h := 0x14, l := 0x46, f := 0x30, pc := 0xC001 }, 8, []) := by decide

/-- V107 (R564). -/
theorem test_V107 :
    outcome (start 0xC000 [0xE8, 0x08] { r0 with sp := 0xFFF8 } []) (fun _ => []) =
      some ({ r0 with sp := 0x0000, pc := 0xC002, f := 0x30 }, 16, []) := by decide

/-- V108 (R564). -/
theorem test_V108 :
    outcome (start 0xC000 [0xE8, 0xFF] { r0 with sp := 0x0000 } []) (fun _ => []) =
      some ({ r0 with sp := 0xFFFF, pc := 0xC002, f := 0x00 }, 16, []) := by decide

/-- V121 (R600). -/
theorem test_V121 :
    outcome (start 0xC000 [0x07] { r0 with a := 0x00, f := 0x80 } []) (fun _ => []) =
      some ({ r0 with a := 0x00, f := 0x00, pc := 0xC001 }, 4, []) := by decide

/-- V122 (R601). -/
theorem test_V122 :
    outcome (start 0xC000 [0x0F] { r0 with a := 0x3B, f := 0x00 } []) (fun _ => []) =
      some ({ r0 with a := 0x9D, f := 0x10, pc := 0xC001 }, 4, []) := by decide

/-- V123 (R602). -/
theorem test_V123 :
    outcome (start 0xC000 [0x17] { r0 with a := 0x80, f := 0x00 } []) (fun _ => []) =
      some ({ r0 with a := 0x00, f := 0x10, pc := 0xC001 }, 4, []) := by decide

/-- V124 (R603). -/
theorem test_V124 :
    outcome (start 0xC000 [0x1F] { r0 with a := 0x01, f := 0x10 } []) (fun _ => []) =
      some ({ r0 with a := 0x80, f := 0x10, pc := 0xC001 }, 4, []) := by decide

/-- V125 (R605). -/
theorem test_V125 :
    outcome (start 0xC000 [0xCB, 0x00] { r0 with b := 0x00, f := 0x10 } []) (fun _ => []) =
      some ({ r0 with b := 0x00, f := 0x80, pc := 0xC002 }, 8, []) := by decide

/-- V126 (R606). -/
theorem test_V126 :
    outcome (start 0xC000 [0xCB, 0x06] { r0 with h := 0xC1, l := 0x00 } [(0xC100, 0x85)]) (fun t => [(t.mem.read 0xC100).toNat]) =
      some ({ r0 with h := 0xC1, l := 0x00, pc := 0xC002, f := 0x10 }, 16, [0x0B]) := by decide

/-- V127 (R607). -/
theorem test_V127 :
    outcome (start 0xC000 [0xCB, 0x09] { r0 with c := 0x01, f := 0x00 } []) (fun _ => []) =
      some ({ r0 with c := 0x80, f := 0x10, pc := 0xC002 }, 8, []) := by decide

/-- V128 (R609). -/
theorem test_V128 :
    outcome (start 0xC000 [0xCB, 0x15] { r0 with l := 0x80, f := 0x00 } []) (fun _ => []) =
      some ({ r0 with l := 0x00, f := 0x90, pc := 0xC002 }, 8, []) := by decide

/-- V129 (R611). -/
theorem test_V129 :
    outcome (start 0xC000 [0xCB, 0x1F] { r0 with a := 0x01, f := 0x00 } []) (fun _ => []) =
      some ({ r0 with a := 0x00, f := 0x90, pc := 0xC002 }, 8, []) := by decide

/-- V130 (R613). -/
theorem test_V130 :
    outcome (start 0xC000 [0xCB, 0x22] { r0 with d := 0x80, f := 0x00 } []) (fun _ => []) =
      some ({ r0 with d := 0x00, f := 0x90, pc := 0xC002 }, 8, []) := by decide

/-- V131 (R615). -/
theorem test_V131 :
    outcome (start 0xC000 [0xCB, 0x2F] { r0 with a := 0x8A, f := 0x00 } []) (fun _ => []) =
      some ({ r0 with a := 0xC5, f := 0x00, pc := 0xC002 }, 8, []) := by decide

/-- V132 (R617). -/
theorem test_V132 :
    outcome (start 0xC000 [0xCB, 0x37] { r0 with a := 0xF0, f := 0x10 } []) (fun _ => []) =
      some ({ r0 with a := 0x0F, f := 0x00, pc := 0xC002 }, 8, []) := by decide

/-- V133 (R618). -/
theorem test_V133 :
    outcome (start 0xC000 [0xCB, 0x36] { r0 with h := 0xC1, l := 0x00 } [(0xC100, 0x00)]) (fun _ => []) =
      some ({ r0 with h := 0xC1, l := 0x00, pc := 0xC002, f := 0x80 }, 16, []) := by decide

/-- V134 (R619). -/
theorem test_V134 :
    outcome (start 0xC000 [0xCB, 0x3F] { r0 with a := 0x01, f := 0x00 } []) (fun _ => []) =
      some ({ r0 with a := 0x00, f := 0x90, pc := 0xC002 }, 8, []) := by decide

/-- V135 (R620). -/
theorem test_V135 :
    outcome (start 0xC000 [0xCB, 0x3E] { r0 with h := 0xC1, l := 0x00 } [(0xC100, 0xFF)]) (fun t => [(t.mem.read 0xC100).toNat]) =
      some ({ r0 with h := 0xC1, l := 0x00, pc := 0xC002, f := 0x10 }, 16, [0x7F]) := by decide

/-- V136 (R621). -/
theorem test_V136 :
    outcome (start 0xC000 [0xCB, 0x7F] { r0 with a := 0x80, f := 0x10 } []) (fun _ => []) =
      some ({ r0 with a := 0x80, f := 0x30, pc := 0xC002 }, 8, []) := by decide

/-- V137 (R621). -/
theorem test_V137 :
    outcome (start 0xC000 [0xCB, 0x47] { r0 with a := 0xFE, f := 0x00 } []) (fun _ => []) =
      some ({ r0 with a := 0xFE, f := 0xA0, pc := 0xC002 }, 8, []) := by decide

/-- V138 (R622). -/
theorem test_V138 :
    outcome (start 0xC000 [0xCB, 0x46] { r0 with h := 0xC1, l := 0x00, f := 0x00 } [(0xC100, 0xFE)]) (fun _ => []) =
      some ({ r0 with h := 0xC1, l := 0x00, f := 0xA0, pc := 0xC002 }, 12, []) := by decide

/-- V139 (R623). -/
theorem test_V139 :
    outcome (start 0xC000 [0xCB, 0xBF] { r0 with a := 0xFF } []) (fun _ => []) =
      some ({ r0 with a := 0x7F, pc := 0xC002 }, 8, []) := by decide

/-- V140 (R624). -/
theorem test_V140 :
    outcome (start 0xC000 [0xCB, 0x9E] { r0 with h := 0xC1, l := 0x00 } [(0xC100, 0xFF)]) (fun t => [(t.mem.read 0xC100).toNat]) =
      some ({ r0 with h := 0xC1, l := 0x00, pc := 0xC002 }, 16, [0xF7]) := by decide

/-- V141 (R625). -/
theorem test_V141 :
    outcome (start 0xC000 [0xCB, 0xDF] { r0 with a := 0x00 } []) (fun _ => []) =
      some ({ r0 with a := 0x08, pc := 0xC002 }, 8, []) := by decide

/-- V142 (R626). -/
theorem test_V142 :
    outcome (start 0xC000 [0xCB, 0xFE] { r0 with h := 0xC1, l := 0x00 } [(0xC100, 0x00)]) (fun t => [(t.mem.read 0xC100).toNat]) =
      some ({ r0 with h := 0xC1, l := 0x00, pc := 0xC002 }, 16, [0x80]) := by decide

/-- V151 (R652). -/
theorem test_V151 :
    outcome (start 0xC000 [0xCA, 0x00, 0xD0] { r0 with f := 0x80 } []) (fun _ => []) =
      some ({ r0 with f := 0x80, pc := 0xD000 }, 16, []) := by decide

/-- V152 (R652). -/
theorem test_V152 :
    outcome (start 0xC000 [0xCA, 0x00, 0xD0] { r0 with f := 0x00 } []) (fun _ => []) =
      some ({ r0 with f := 0x00, pc := 0xC003 }, 12, []) := by decide

/-- V153 (R653). -/
theorem test_V153 :
    outcome (start 0xC000 [0xE9] { r0 with h := 0x40, l := 0x00 } []) (fun _ => []) =
      some ({ r0 with h := 0x40, l := 0x00, pc := 0x4000 }, 4, []) := by decide

/-- V155 (R654). -/
theorem test_V155 :
    outcome (start 0xC000 [0x18, 0x80] r0 []) (fun _ => []) =
      some ({ r0 with pc := 0xBF82 }, 12, []) := by decide

/-- V156 (R655). -/
theorem test_V156 :
    outcome (start 0xC000 [0x20, 0xFC] { r0 with f := 0x00 } []) (fun _ => []) =
      some ({ r0 with f := 0x00, pc := 0xBFFE }, 12, []) := by decide

/-- V159 (R656). -/
theorem test_V159 :
    outcome (start 0xC000 [0xCD, 0x34, 0x12] r0 []) (fun t => [(t.mem.read 0xFFFC).toNat, (t.mem.read 0xFFFD).toNat]) =
      some ({ r0 with pc := 0x1234, sp := 0xFFFC }, 24, [0x03, 0xC0]) := by decide

/-- V161 (R657). -/
theorem test_V161 :
    outcome (start 0xC000 [0xC4, 0x00, 0x40] { r0 with f := 0x80 } []) (fun _ => []) =
      some ({ r0 with f := 0x80, pc := 0xC003 }, 12, []) := by decide

/-- V162 (R658). -/
theorem test_V162 :
    outcome (start 0xC000 [0xC9] { r0 with sp := 0xFFFC } [(0xFFFC, 0x03), (0xFFFD, 0x02)]) (fun _ => []) =
      some ({ r0 with sp := 0xFFFE, pc := 0x0203 }, 16, []) := by decide

/-- V163 (R659). -/
theorem test_V163 :
    outcome (start 0xC000 [0xC8] { r0 with sp := 0xFFFC, f := 0x80 } [(0xFFFC, 0x03), (0xFFFD, 0x02)]) (fun _ => []) =
      some ({ r0 with sp := 0xFFFE, f := 0x80, pc := 0x0203 }, 20, []) := by decide

/-- V165 (R660). -/
theorem test_V165 :
    outcome (start 0xC000 [0xD9] { r0 with sp := 0xFFFC } [(0xFFFC, 0x50), (0xFFFD, 0x01)]) (fun t => [t.ime.toNat]) =
      some ({ r0 with sp := 0xFFFE, pc := 0x0150 }, 16, [1]) := by decide

/-- V166 (R661). -/
theorem test_V166 :
    outcome (start 0xC000 [0xEF] r0 []) (fun t => [(t.mem.read 0xFFFC).toNat, (t.mem.read 0xFFFD).toNat]) =
      some ({ r0 with pc := 0x0028, sp := 0xFFFC }, 16, [0x01, 0xC0]) := by decide

/-- V168 (R656). -/
theorem test_V168 :
    outcome ({ start 0xFF90 [0xCD, 0x34, 0x12] { r0 with sp := 0xD000 } [] with dma := { State.reset.dma with active := true } }) (fun _ => []) =
      some ({ r0 with sp := 0xCFFE, pc := 0x1234 }, 24, []) := by decide

/-- V181 (R706). -/
theorem test_V181 :
    outcome (start 0xC000 [0x10, 0x00] r0 []) (fun _ => []) =
      some ({ r0 with pc := 0xC002 }, 4, []) := by decide

/-- V182 (R710). -/
theorem test_V182 :
    outcome ({ start 0xC000 [0xF3] r0 [] with ime := true, imePending := true }) (fun t => [t.ime.toNat, t.imePending.toNat]) =
      some ({ r0 with pc := 0xC001 }, 4, [0, 0]) := by decide

/-- V183 (R711). -/
theorem test_V183 :
    outcome (start 0xC000 [0xFB] r0 []) (fun t => [t.imePending.toNat]) =
      some ({ r0 with pc := 0xC001 }, 4, [1]) := by decide

/-- V184 (R712). -/
theorem test_V184 :
    outcome ({ start 0xC000 [0x76] r0 [] with ime := true, ie := 0x04 }) (fun t => [t.halted.toNat]) =
      some ({ r0 with pc := 0xC001 }, 4, [1]) := by decide

/-- V185 (R712). -/
theorem test_V185 :
    outcome (start 0xC000 [0x76] r0 []) (fun t => [t.haltBug.toNat]) =
      some ({ r0 with pc := 0xC001 }, 4, [1]) := by decide

/-- V186 (R712). -/
theorem test_V186 :
    outcome ({ start 0xC000 [0x76] r0 [] with ie := 0x01, iflag := 0x01 }) (fun t => [t.halted.toNat]) =
      some ({ r0 with pc := 0xC001 }, 4, [1]) := by decide

/-- V187 (R702). -/
theorem test_V187 :
    outcome ({ start 0xC000 [0x3E, 0x05] r0 [] with haltBug := true }) (fun t => [t.haltBug.toNat]) =
      some ({ r0 with pc := 0xC001, a := 0x3E }, 8, [0]) := by decide

/-- V188 (R701). -/
theorem test_V188 :
    outcome ({ start 0xC000 [0x3C] r0 [] with halted := true }) (fun _ => []) =
      some ({ r0 with pc := 0xC000 }, 4, []) := by decide

/-- V191 (R713). -/
theorem test_V191 :
    outcome (start 0xC000 [0xCB, 0x37] { r0 with a := 0x12 } []) (fun _ => []) =
      some ({ r0 with a := 0x21, pc := 0xC002, f := 0x00 }, 8, []) := by decide

/-- V192 (R713). -/
theorem test_V192 :
    outcome ({ start 0xC000 [0xCB, 0xCB] { r0 with e := 0x00 } [] with haltBug := true }) (fun t => [t.haltBug.toNat]) =
      some ({ r0 with e := 0x02, pc := 0xC001 }, 8, [0]) := by decide

/-- The opcode, the address, PC, IME, IME_PENDING and whether FAULT is set, where a CPU step raises IllegalOpcode. -/
def illegalOutcome (s : State) : Option (Byte × Word × Word × Bool × Bool × Bool) :=
  match s.cpuStep with
  | .fault (.illegalOpcode op a t) => some (op, a, t.regs.pc, t.ime, t.imePending, t.fault == some (.illegalOpcode op a))
  | _ => none

/-- V189 (R704). -/
theorem test_V189 :
    illegalOutcome (start 0xC000 [0xD3] r0 []) = some (0xD3, 0xC000, 0xC001, false, false, true) := by decide

/-- V190 (R704): a pending EI is applied before the fault. -/
theorem test_V190 :
    illegalOutcome { start 0xC000 [0xFD] r0 [] with imePending := true } = some (0xFD, 0xC000, 0xC001, true, false, true) := by
  decide

/-! ### The vectors: one iteration -/

/-- PC, SP, IF, IME and the cycles after a step of the machine. -/
def iterated (s : State) : Option (Word × Word × Byte × Bool × Nat) :=
  match step s with
  | .next t => some (t.regs.pc, t.regs.sp, t.iflag, t.ime, t.cycles)
  | _ => none

/-- V200 (R811, R820): the Timer before the Joypad. -/
theorem test_V200 :
    iterated { start 0xC000 [0x00] r0 [] with ime := true, ie := 0x1F, iflag := 0x14 } =
      some (0x0050, 0xFFFC, 0x10, false, 20) := by decide

/-- V202 (R820): from a halt, 4 cycles more. -/
theorem test_V202 :
    iterated { start 0xC000 [0x00] r0 [] with ime := true, halted := true, ie := 0x04, iflag := 0x04 } =
      some (0x0050, 0xFFFC, 0x00, false, 24) := by decide

/-- V205 (R711): no dispatch in the iteration of EI. -/
theorem test_V205 :
    iterated { start 0xC000 [0xFB] r0 [] with ie := 0x01, iflag := 0x01 } =
      some (0xC001, 0xFFFE, 0x01, false, 4) := by decide

/-- V206 (R660): RETI, then a dispatch in the same iteration. -/
theorem test_V206 :
    iterated { start 0xC000 [0xD9] { r0 with sp := 0xFFFC } [(0xFFFC, 0x50), (0xFFFD, 0x01)] with ie := 0x01, iflag := 0x01 } =
      some (0x0040, 0xFFFC, 0x00, false, 32) := by decide

/-! ### The vectors: the units -/

def timerOf (s : State) : Byte × Nat × Byte × Nat × Byte :=
  (s.timer.div, s.timer.divAcc, s.timer.tima, s.timer.timaAcc, s.iflag)

def withTimer (tac tima tma : Byte) : State :=
  { State.reset with timer := { State.reset.timer with tac := tac, tima := tima, tma := tma } }

/-- V221 (R831). -/
theorem test_V221 : timerOf ((withTimer 0x05 0xFF 0x80).timerUpdate 4) = (0xAB, 4, 0x80, 0, 0x04) := by decide

/-- V224 (R831). -/
theorem test_V224 : timerOf ((withTimer 0x06 0x00 0x00).timerUpdate 40) = (0xAB, 40, 0x02, 8, 0x00) := by decide

/-- V225 (R833). -/
theorem test_V225 : timerOf ((withTimer 0x01 0x00 0x00).timerUpdate 1000) = (0xAE, 232, 0x00, 0, 0x00) := by decide

/-- V227 (R831). -/
theorem test_V227 : timerOf ((withTimer 0x05 0xFE 0xFE).timerUpdate 12) = (0xAB, 12, 0xFF, 0, 0x04) := by decide

def ppuOf (s : State) : PpuMode × Byte × Nat × Byte × Byte := (s.ppu.mode, s.ppu.ly, s.ppu.dots, s.ppu.stat, s.iflag)

/-- V241 (R841). -/
theorem test_V241 : ppuOf (State.reset.ppuUpdate 252) = (.hblank, 0, 0, 0x04, 0x00) := by decide

/-- V242 (R841). -/
theorem test_V242 : ppuOf (State.reset.ppuUpdate 456) = (.oamScan, 1, 0, 0x02, 0x00) := by decide

/-- V246 (R844). -/
theorem test_V246 :
    ppuOf (State.ppuUpdate { State.reset with ppu := { State.reset.ppu with statHi := 0b01000, lyc := 1 } } 456) =
      (.oamScan, 1, 0, 0x46, 0x02) := by decide

/-- V249 (R846). -/
theorem test_V249 :
    (State.reset.busWrite 0xFF41 0x20).map (fun s => ppuOf (s.ppuUpdate 4)) = some (.oamScan, 0, 4, 0x26, 0x02) := by decide

/-- V250 (R849). -/
theorem test_V250 :
    ((State.reset.ppuUpdate 1000).busWrite 0xFF40 0x11).map (fun s => ppuOf (s.ppuUpdate 4)) =
      some (.hblank, 0, 0, 0x00, 0x00) := by decide

/-- The first 16 pixels of a line. -/
def pixels (s : State) : List Nat := (List.range 16).map fun x => (s.pixel 0 x).toNat

/-- The reset state with an LCDC, a palette for BGP and OBP0, and cells. -/
def picture (lcdc : Byte) (cells : List (Nat × Byte)) : State :=
  { State.reset with ppu := { State.reset.ppu with lcdc := lcdc, bgp := 0xE4, obp0 := 0xE4 }
                     mem := cells.foldl (fun m c => m.write c.1 c.2) [] }

/-- V261 (R850). -/
theorem test_V261 : pixels (picture 0x91 [(0x9800, 0x01), (0x8010, 0xF0), (0x8011, 0xCC)]) =
    [3, 3, 1, 1, 2, 2, 0, 0, 0, 0, 0, 0, 0, 0, 0, 0] := by decide

/-- V263 (R850): signed tile numbers. -/
theorem test_V263 : pixels (picture 0x81 [(0x9800, 0xFF), (0x8FF0, 0xAA)]) =
    [1, 0, 1, 0, 1, 0, 1, 0, 0, 0, 0, 0, 0, 0, 0, 0] := by decide

/-- V265 (R850): the window. -/
theorem test_V265 :
    pixels (let s := picture 0xF1 [(0x9C00, 0x01), (0x8010, 0xFF), (0x8011, 0xFF)]
            { s with ppu := { s.ppu with wx := 15 } }) =
      [0, 0, 0, 0, 0, 0, 0, 0, 3, 3, 3, 3, 3, 3, 3, 3] := by decide

/-- V267 (R851): X flip. -/
theorem test_V267 :
    pixels (picture 0x93 [(0xFE00, 16), (0xFE01, 10), (0xFE02, 2), (0xFE03, 0x20), (0x8020, 0x81), (0x8021, 0x80)]) =
      [0, 0, 1, 0, 0, 0, 0, 0, 0, 3, 0, 0, 0, 0, 0, 0] := by decide

/-- V268 (R851): behind the background's colours 1 to 3. -/
theorem test_V268 :
    pixels (picture 0x93 [(0xFE00, 16), (0xFE01, 10), (0xFE02, 2), (0xFE03, 0x80), (0x8020, 0x81), (0x8021, 0x80),
        (0x9800, 0x01), (0x8010, 0xF0), (0x8011, 0xCC)]) =
      [3, 3, 1, 1, 2, 2, 0, 0, 0, 1, 0, 0, 0, 0, 0, 0] := by decide

/-- V280 (R860, R861), with 8 of the 160 bytes named. -/
theorem test_V280 :
    ((start 0xC000 [0x10, 0x11, 0x12, 0x13, 0x14, 0x15, 0x16, 0x17] r0 [(0xFF80, 0x77)]).busWrite 0xFF46 0xC0).bind (fun s =>
      match s.dmaUpdate 6 with
      | .next t => some (t.dma.active, t.dma.index, t.memRead 0xC000, t.memRead 0xFF80, t.mem.read 0xFE05, t.mem.read 0xFE06)
      | _ => none) = some (true, 6, some 0xFF, some 0x77, 0x15, 0x00) := by decide

def mbc1 (ramg : BitVec 4) (bank1 : BitVec 5) (bank2 : BitVec 2) (mode : BitVec 1) : State :=
  { State.reset with
    cart := { kind := .mbc1, romSize := 0x20000, ramSize := 0x2000, ramg := ramg, bank1 := bank1, bank2 := bank2, mode := mode }
    mem := ((Memory.write [] (romBase + 0x200) 0xB0).write (romBase + 0x4200) 0xB1).write (romBase + 0x1C200) 0xB7 }

/-- V282, V283, V288, V290 (R260): the masks of the registers. -/
theorem test_V282_V283_V288_V290 :
    ((mbc1 0 1 0 0).busWrite 0x2000 0x23).map (fun s => s.cart.bank1.toNat) = some 3 ∧
    ((mbc1 0 1 0 0).busWrite 0x2000 0x20).map (fun s => s.cart.bank1.toNat) = some 1 ∧
    ((mbc1 0 1 0 0).busWrite 0x0000 0x1A).map (fun s => s.cart.ramg.toNat) = some 0xA ∧
    ((mbc1 0 1 0 0).busWrite 0x4000 0xFF).map (fun s => s.cart.bank2.toNat) = some 3 := by decide

/-- V284, V285 (R262, R263): the windows. -/
theorem test_V284_V285 :
    (mbc1 0 7 3 0).busRead 0x4200 = some 0xB7 ∧ (mbc1 0 7 3 0).busRead 0x0200 = some 0xB0 ∧
      (mbc1 0 1 1 1).busRead 0x0200 = some 0xB0 := by decide

/-- V286, V289 (R264, R265): the gate, and the offset modulo RAM_SIZE. -/
theorem test_V286_V289 :
    (mbc1 0 1 0 0).busRead 0xA000 = some 0xFF ∧
      ((mbc1 0xA 1 1 1).busWrite 0xA000 0x66).map (fun s => s.mem.read cramBase) = some 0x66 := by decide

/-- V291 to V295 (R870, R871): P1 and IF after a press. -/
theorem test_V291_V292_V293_V295 :
    let press (sel : BitVec 2) (b : Buttons) : Byte × Byte :=
      let s := State.deliver { State.reset with joypad := { State.reset.joypad with sel := sel } } b
      (s.joypad.read, s.iflag)
    press 1 { Buttons.released with a := true, start := true } = (0xD6, 0x10) ∧
    press 2 { Buttons.released with a := true, start := true } = (0xEF, 0x00) ∧
    press 2 { Buttons.released with down := true, right := true } = (0xE6, 0x10) ∧
    press 3 { Buttons.released with a := true, down := true } = (0xFF, 0x00) := by decide

/-- An image whose header is zero but for the type byte and the checksum byte. -/
def image (type sum : Byte) : List Byte := List.replicate 0x147 0 ++ [type, 0, 0, 0, 0, 0, sum, 0, 0]

set_option maxRecDepth 8000 in
/-- V296, V297 (R251, R252). -/
theorem test_V296_V297 :
    headerChecksum (image 0x00 0xE7) = 0xE7 ∧ (Cart.ofImage (image 0x00 0xE7)).toOption = some Cart.empty ∧
    (Cart.ofImage (image 0x00 0x18)).toOption = none ∧
    (match Cart.ofImage (image 0x05 0xE2) with | .error (.unsupportedMbc t) => t = 0x05 | _ => False) := ⟨rfl, rfl, rfl, rfl⟩

/-- Section 3: what a read gives after a write of 0x5A, where it is not 0x5A, and STAT after 0xFF. -/
theorem test_io_round_trip :
    let after (a : Word) (v : Byte) : Option Byte := (State.reset.busWrite a v).bind (·.busRead a)
    after 0xFF00 0x5A = some 0xDF ∧ after 0xFF04 0x5A = some 0x00 ∧ after 0xFF44 0x5A = some 0x00 ∧
      after 0xFF41 0x5A = some 0x5E ∧ after 0xFF41 0xFF = some 0xFE ∧ after 0xFF0F 0xFF = some 0xFF := by decide

/-- The step runs the word placed where it fetches. -/
theorem test_withFetchWord_runs :
    iterated (State.reset.withFetchWord 8 0x3C) = some (0x0101, 0xFFFE, 0x00, false, 4) ∧
      iterated (State.reset.withFetchWord 16 0xCB37) = some (0x0102, 0xFFFE, 0x00, false, 8) := by decide

/-! ### The hypotheses of the statements are met -/

/-- A machine with the unmapped policy Fault, and BC, DE, HL and SP at one address. -/
def strictAt (w : Word) : State :=
  { State.reset with
    policy := .fault
    regs := { r0 with b := hiByte w, c := loByte w, d := hiByte w, e := loByte w, h := hiByte w, l := loByte w, sp := w } }

/-- 0xFF02 is the last address before the unmapped 0xFF03 (R203); the low bytes of LDH at the ends of the second unmapped range. -/
theorem witness_MemoryLoads :
    (let s := strictAt 0xFF02
     s.Answers s.hl ∧ s.Answers (s.regs.b ++ s.regs.c) ∧ s.Answers (BitVec.ofNat 16 (0xFF00 + s.regs.c.toNat)) ∧
       s.Answers (BitVec.ofNat 16 (0xFF00 + (0x80 : Byte).toNat)) ∧ s.Answers 0x0000) ∧
    (let s := strictAt 0xFF03
     ¬s.Answers s.hl ∧ ¬s.Answers (s.regs.d ++ s.regs.e) ∧ ¬s.Answers (BitVec.ofNat 16 (0xFF00 + s.regs.c.toNat)) ∧
       ¬s.Answers (BitVec.ofNat 16 (0xFF00 + (0x7F : Byte).toNat)) ∧ ¬s.Answers 0xFF4C) := by
  unfold State.Answers
  decide

theorem witness_MemoryStores : (strictAt 0xFFFF).Answers (strictAt 0xFFFF).hl ∧ ¬(strictAt 0xFF7F).Answers (strictAt 0xFF7F).hl := by
  unfold State.Answers
  decide

theorem witness_AluOnMemory : (strictAt 0xFF07).Answers (strictAt 0xFF07).hl ∧ ¬(strictAt 0xFF08).Answers (strictAt 0xFF08).hl := by
  unfold State.Answers
  decide

theorem witness_IncDecByte : (strictAt 0xFF0F).Answers (strictAt 0xFF0F).hl ∧ ¬(strictAt 0xFF0E).Answers (strictAt 0xFF0E).hl := by
  unfold State.Answers
  decide

theorem witness_RotateMemory : (strictAt 0xFF40).Answers (strictAt 0xFF40).hl ∧ ¬(strictAt 0xFF3F).Answers (strictAt 0xFF3F).hl := by
  unfold State.Answers
  decide

theorem witness_BitTestResetSet : (strictAt 0xFF4B).Answers (strictAt 0xFF4B).hl ∧ ¬(strictAt 0xFF4C).Answers (strictAt 0xFF4C).hl := by
  unfold State.Answers
  decide

theorem witness_PrefixRunsCbRow : (strictAt 0xFF80).Answers (strictAt 0xFF80).hl := by
  unfold State.Answers
  decide

/-- No address answers; the first does and the second does not; both do, the second past the end of the address space. -/
theorem witness_StoresSpLowByteFirst :
    ¬(strictAt 0xC000).Answers 0xFF03 ∧
    ((strictAt 0xC000).Answers 0xFF02 ∧ ∃ t1, (strictAt 0xC000).memWrite 0xFF02 0x00 = some t1 ∧ ¬t1.Answers (0xFF02 + 1)) ∧
    (strictAt 0xC000).Answers 0xFFFF ∧ (strictAt 0xC000).Answers (0xFFFF + 1) := by
  unfold State.Answers
  exact ⟨by decide, ⟨by decide, _, rfl, by decide⟩, by decide, by decide⟩

/-- Both stack bytes answer, SP wrapping between them; the first does not; the second does not. -/
theorem witness_PushStoresHighByteFirst :
    ((strictAt 0x0001).Answers ((strictAt 0x0001).regs.sp - 1) ∧ (strictAt 0x0001).Answers ((strictAt 0x0001).regs.sp - 2)) ∧
    ¬(strictAt 0xFF04).Answers ((strictAt 0xFF04).regs.sp - 1) ∧
    ∃ t1, ((strictAt 0xFF05).setSp ((strictAt 0xFF05).regs.sp - 1)).memWrite ((strictAt 0xFF05).regs.sp - 1) 0x12 = some t1 ∧
      ¬t1.Answers ((strictAt 0xFF05).regs.sp - 2) := by
  unfold State.Answers
  exact ⟨⟨by decide, by decide⟩, by decide, _, rfl, by decide⟩

theorem witness_PopReadsLowByteFirst :
    ((strictAt 0xFFFF).Answers (strictAt 0xFFFF).regs.sp ∧ (strictAt 0xFFFF).Answers ((strictAt 0xFFFF).regs.sp + 1)) ∧
    ¬(strictAt 0xFF03).Answers (strictAt 0xFF03).regs.sp ∧
    (strictAt 0xFF02).Answers (strictAt 0xFF02).regs.sp ∧ ¬(strictAt 0xFF02).Answers ((strictAt 0xFF02).regs.sp + 1) := by
  unfold State.Answers
  decide

/-- At the top of HRAM. -/
theorem witness_PopUndoesPush :
    let s := strictAt 0xFFFF
    ramAddr (s.regs.sp - 1) ∧ ramAddr (s.regs.sp - 2) ∧ s.blocked (s.regs.sp - 1) = false ∧ s.blocked (s.regs.sp - 2) = false ∧
      s.cellOf (s.regs.sp - 1).toNat = some 0xFFFE ∧ s.cellOf (s.regs.sp - 2).toNat = some 0xFFFD ∧ 0xFFFE ≠ 0xFFFD := by
  unfold ramAddr
  decide

theorem witness_CallsAndRestarts :
    let s := strictAt 0x8002
    (condOf .nz 0x7F = true ∧ condOf .z 0x80 = true ∧ condOf .nc 0xEF = true ∧ condOf .c 0x10 = true) ∧ condOf .c s.regs.f = true ∧
      condOf .nz s.regs.f = false ∧ s.Answers (s.regs.sp - 1) ∧ s.Answers (s.regs.sp - 2) ∧ ¬(strictAt 0xFF80).Answers (0xFF80 - 1) ∧
      ∃ t1, ((strictAt 0xFF41).setSp 0xFF40).memWrite 0xFF40 0xC0 = some t1 ∧ ¬t1.Answers (0xFF41 - 2) := by
  unfold State.Answers
  exact ⟨by decide, by decide, by decide, by decide, by decide, by decide, _, rfl, by decide⟩

theorem witness_Jumps :
    (condOf .nz 0x7F = true ∧ condOf .z 0x80 = true ∧ condOf .nc 0xEF = true ∧ condOf .c 0x10 = true) ∧
      condOf .nz 0x80 = false ∧ condOf .z 0x7F = false ∧ condOf .nc 0x10 = false ∧ condOf .c 0xEF = false := by decide

theorem witness_Returns :
    let s := strictAt 0xFFFF
    condOf .z s.regs.f = true ∧ condOf .nz s.regs.f = false ∧ s.Answers s.regs.sp ∧ s.Answers (s.regs.sp + 1) ∧
      ¬(strictAt 0xFF10).Answers 0xFF10 ∧ (strictAt 0xFF0F).Answers 0xFF0F ∧ ¬(strictAt 0xFF0F).Answers (0xFF0F + 1) := by
  unfold State.Answers
  decide

/-- The largest two-digit numbers, with the carry set. -/
theorem witness_DaaCorrectsDecimalArithmetic :
    let s : State := { State.reset with regs := { r0 with a := 0x99, b := 0x99 } }
    99 < 100 ∧ s.regs.a = bcd 99 ∧ s.reg .b = bcd 99 ∧ s.flagC = true := by decide

theorem witness_DecodeOfEncode : Instr.wellFormed (.jpA16 0xFFFF) = true ∧ Instr.wellFormed .set7A = true := by decide

theorem witness_EncodeOfDecode : decode [0x3E, 0xFF, 0xCB] = .ok (.ldAN8 0xFF, [0xCB]) := rfl

/-- INPUT empty, its first entry at the number of the iteration and one above it; three bytes at 0xC000, with a snapshot due before the
iteration. -/
theorem witness_StepRunsDecoded :
    (State.reset.input = [] ∧
      let at' (n : Nat) : State := { State.reset with input := [(n, Buttons.released), (9, Buttons.released)], iter := 7 }
      (at' 7).input = (7, Buttons.released) :: [(9, Buttons.released)] ∧ 7 ≤ (at' 7).iter ∧ (at' 8).iter < 8) ∧
    let s : State := { start 0xC000 [0xC3, 0x00, 0x01] r0 [] with input := [(0, { Buttons.released with a := true })] }
    let u := s.applyInput
    s.fault = none ∧ u.halted = false ∧ u.haltBug = false ∧ u.ReadsAt u.regs.pc [0xC3, 0x00, 0x01] ∧
      decode [0xC3, 0x00, 0x01] = .ok (.jpA16 0x0100, []) :=
  ⟨⟨rfl, rfl, by decide, by decide⟩, rfl, rfl, rfl, ⟨rfl, rfl, rfl, trivial⟩, rfl⟩

/-- The operand of LD A,n8 is read at the address of the opcode (V187). -/
theorem witness_HaltedStepAndHaltBugFetch :
    ({ State.reset with halted := true } : State).halted = true ∧
    let s : State := { start 0xC000 [0x3E, 0x05] r0 [] with haltBug := true }
    s.halted = false ∧ s.haltBug = true ∧ s.memRead s.regs.pc = some 0x3E ∧ s.ReadsAt s.regs.pc [0x3E] ∧
      decode (0x3E :: [0x3E]) = .ok (.ldAN8 0x3E, []) :=
  ⟨rfl, rfl, rfl, rfl, ⟨rfl, trivial⟩, rfl⟩

/-- Whether an outcome is a next state, and that state. -/
def isNext (o : Result) : Bool :=
  match o with
  | .next _ => true
  | _ => false

def nextOf (o : Result) : State :=
  match o with
  | .next t => t
  | _ => State.reset

theorem eq_nextOf {o : Result} (h : isNext o = true) : o = .next (nextOf o) := by
  cases o <;> simp_all [isNext, nextOf]

def dispatching : State := { start 0xC000 [0x00] r0 [] with ime := true, ie := 0x01, iflag := 0x01 }

/-- Whether an outcome is a fault. -/
def isFault (o : Result) : Bool :=
  match o with
  | .fault _ => true
  | _ => false

theorem exists_fault {o : Result} (h : isFault o = true) : ∃ f, o = .fault f := by
  cases o <;> simp_all [isFault]

/-- Under Fault, halted, with VBlank to dispatch, in a transfer with `k` bytes before 0xFF03. -/
def transferring (k : Nat) : State :=
  { strictAt 0xC000 with
    halted := true, ime := true, ie := 0x01, iflag := 0x01
    dma := { reg := 0xFE, active := true, src := BitVec.ofNat 16 (0xFF03 - k), index := 0, acc := 0 } }

/-- A raise in the CPU step (an illegal opcode), in the first update (the transfer's second byte), in the dispatch (a push to 0xFF03), and in the
update after it (the transfer's sixth byte). -/
theorem witness_IterationOrder_raises :
    (∃ f, (start 0xC000 [0xD3] r0 []).cpuStep = .fault f) ∧
    (∃ s1, (transferring 1).cpuStep = .next s1 ∧
      ∃ f, (State.timerUpdate (s1.ppuUpdate s1.cycles) s1.cycles).dmaUpdate s1.cycles = .fault f) ∧
    (∃ s1 s2, State.cpuStep { strictAt 0xFF04 with ime := true, ie := 0x01, iflag := 0x01 } = .next s1 ∧
      (State.timerUpdate (s1.ppuUpdate s1.cycles) s1.cycles).dmaUpdate s1.cycles = .next s2 ∧ ∃ f, s2.handleInterrupts = .fault f) ∧
    ∃ s1 s2 s3, (transferring 5).cpuStep = .next s1 ∧
      (State.timerUpdate (s1.ppuUpdate s1.cycles) s1.cycles).dmaUpdate s1.cycles = .next s2 ∧
      s2.handleInterrupts = .next s3 ∧ 0 < s3.cycles ∧
      ∃ f, (State.timerUpdate (s3.ppuUpdate s3.cycles) s3.cycles).dmaUpdate s3.cycles = .fault f :=
  ⟨exists_fault (by decide), ⟨_, eq_nextOf (by decide), exists_fault (by decide)⟩,
    ⟨_, _, eq_nextOf (by decide), eq_nextOf (by decide), exists_fault (by decide)⟩,
    _, _, _, eq_nextOf (by decide), eq_nextOf (by decide), eq_nextOf (by decide), by decide, exists_fault (by decide)⟩

/-- An iteration without a dispatch, and one with. -/
theorem witness_IterationOrder :
    (∃ s1 s2 s3, State.reset.cpuStep = .next s1 ∧
      (State.timerUpdate (s1.ppuUpdate s1.cycles) s1.cycles).dmaUpdate s1.cycles = .next s2 ∧
      s2.handleInterrupts = .next s3 ∧ s3.cycles = 0) ∧
    ∃ s1 s2 s3 s4, dispatching.cpuStep = .next s1 ∧
      (State.timerUpdate (s1.ppuUpdate s1.cycles) s1.cycles).dmaUpdate s1.cycles = .next s2 ∧
      s2.handleInterrupts = .next s3 ∧ 0 < s3.cycles ∧
      (State.timerUpdate (s3.ppuUpdate s3.cycles) s3.cycles).dmaUpdate s3.cycles = .next s4 :=
  ⟨⟨_, _, _, eq_nextOf (by decide), eq_nextOf (by decide), eq_nextOf (by decide), by decide⟩,
    _, _, _, _, eq_nextOf (by decide), eq_nextOf (by decide), eq_nextOf (by decide), by decide, eq_nextOf (by decide)⟩

theorem witness_FaultIsFinal :
    (∃ f, step (start 0xC000 [0xD3] r0 []) = .fault f) ∧
      ({ State.reset with fault := some .invalidRom } : State).fault = some .invalidRom := ⟨⟨_, rfl⟩, rfl⟩

theorem witness_OpenBusStopsAtIllegalOpcodesOnly : State.reset.policy = .openBus ∧ State.reset.fault = none := ⟨rfl, rfl⟩

/-- Nothing waits with IME clear; IME set; a source waits with IME clear. -/
theorem witness_SystemInstructions :
    (State.reset.ime = false ∧ ¬∃ i : Fin 5, State.reset.ie.getLsbD i = true ∧ State.reset.iflag.getLsbD i = true) ∧
    ({ State.reset with ime := true } : State).ime = true ∧
    ∃ i : Fin 5, (0x10 : Byte).getLsbD i = true ∧ (0x10 : Byte).getLsbD i = true := by decide

/-- Nothing pending (a bit above 4 is no source); the Joypad alone; with IME and an answering stack, one that does not answer, and one whose
second byte does not. -/
theorem witness_InterruptDispatch :
    (∀ i : Fin 5, ((0xE0 : Byte).getLsbD i && (0xFF : Byte).getLsbD i) = false) ∧
    ((0x10 : Byte).getLsbD (4 : Fin 5) = true ∧ ∀ j : Fin 5, j < 4 → ((0x10 : Byte).getLsbD j && (0x1F : Byte).getLsbD j) = false) ∧
    (let s : State := { strictAt 0xFFFE with ime := true, ie := 0x10, iflag := 0x1F }
     s.ime = true ∧ s.Answers (s.regs.sp - 1) ∧ s.Answers (s.regs.sp - 2)) ∧
    ¬({ strictAt 0xFF80 with ime := true, ie := 0x10, iflag := 0x1F } : State).Answers (0xFF80 - 1) ∧
    ∃ t1, (({ strictAt 0xFF05 with ime := true, halted := false } : State).setSp 0xFF04).memWrite 0xFF04 0xC0 = some t1 ∧
      ¬t1.Answers (0xFF05 - 2) := by
  unfold State.Answers
  exact ⟨by decide, by decide, by decide, by decide, _, rfl, by decide⟩

theorem witness_FlagsWrittenByListedInstructionsOnly :
    (∃ t, exec .nop State.reset = .next t) ∧ ∃ t, exec .incA State.reset = .next t := ⟨⟨_, rfl⟩, _, rfl⟩

theorem witness_ControlStateChangedByNamedInstructionsOnly :
    (∃ t, exec .ei State.reset = .next t) ∧ (∃ t, exec .halt State.reset = .next t) ∧ ∃ t, exec .reti State.reset = .next t :=
  ⟨⟨_, rfl⟩, ⟨_, rfl⟩, _, rfl⟩

theorem witness_CycleCountsAreFours : ∃ t, exec (.callA16 0x0000) State.reset = .next t := ⟨_, rfl⟩

/-- A store to DIV, one to DMA, and an instruction that stores to neither. -/
theorem witness_UnitsStandStillDuringAnInstruction :
    (∃ t, exec (.ldhAtA8A 0x04) State.reset = .next t ∧ StoresTo (.ldhAtA8A 0x04) State.reset 0xFF04) ∧
    (∃ t, exec (.ldhAtA8A 0x46) State.reset = .next t ∧ StoresTo (.ldhAtA8A 0x46) State.reset 0xFF46) ∧
    ∃ t, exec .nop State.reset = .next t ∧ ¬StoresTo .nop State.reset 0xFF46 :=
  ⟨⟨_, rfl, by simp [StoresTo]⟩, ⟨_, rfl, by simp [StoresTo]⟩, _, rfl,
    by simp [StoresTo, show State.reset.hl = 0x014D from rfl, show State.reset.regs.sp = 0xFFFE from rfl]⟩

theorem witness_BusRoutesEveryAddress :
    Device.accepts .joypad 0xFF00 = true ∧ deviceAt (0xFF03 : Word).toNat = none ∧ deviceAt (0xFF7F : Word).toNat = none ∧
      State.reset.policy = .openBus ∧ (strictAt 0).policy = .fault ∧ (strictAt 0).blocked 0xFF03 = false := by decide

/-- A transfer below HRAM, VRAM in mode 3, OAM in mode 2; HRAM during a transfer, VRAM in mode 2, OAM in mode 0. -/
theorem witness_CpuAccessesAreGated :
    let dma : State := { State.reset with dma := { State.reset.dma with active := true } }
    let draw : State := { State.reset with ppu := { State.reset.ppu with mode := .draw } }
    (dma.dma.active = true ∧ ¬(0xFF80 ≤ (0xFF7F : Word).toNat ∧ (0xFF7F : Word).toNat ≤ 0xFFFE)) ∧
    ((0x8000 ≤ (0x9FFF : Word).toNat ∧ (0x9FFF : Word).toNat ≤ 0x9FFF) ∧ draw.ppu.mode = .draw) ∧
    ((0xFE00 ≤ (0xFE9F : Word).toNat ∧ (0xFE9F : Word).toNat ≤ 0xFE9F) ∧ State.reset.ppu.mode = .oamScan) ∧
    dma.blocked 0xFF80 = false ∧ State.reset.blocked 0x8000 = false ∧ draw.blocked 0xA000 = false ∧ State.reset.blocked 0xFEA0 = false := by decide

/-- A blocked write; a write of WRAM through the echo, whose cell two addresses reach. -/
theorem witness_WriteChangesOneByte :
    (∃ t, State.reset.memWrite 0xFE00 0x12 = some t ∧ State.reset.blocked 0xFE00 = true) ∧
    ∃ t, State.reset.memWrite 0xE000 0x12 = some t ∧ State.reset.blocked 0xE000 = false ∧ ramAddr 0xE000 ∧
      State.reset.cellOf (0xE000 : Word).toNat = some 0xC000 ∧ State.reset.cellOf (0xC000 : Word).toNat = some 0xC000 := by
  unfold ramAddr
  exact ⟨⟨_, rfl, by decide⟩, _, rfl, by decide, by decide, by decide, by decide⟩

theorem witness_FixedArraysOfTheMap :
    (0x8000 ≤ (0x9FFF : Word).toNat ∧ (0x9FFF : Word).toNat ≤ 0x9FFF) ∧ (0xE000 ≤ (0xFDFF : Word).toNat ∧ (0xFDFF : Word).toNat ≤ 0xFDFF) ∧
      (0xFEA0 ≤ (0xFEFF : Word).toNat ∧ (0xFEFF : Word).toNat ≤ 0xFEFF) := by decide

/-- P1 as read at reset; the LCD on, and off. -/
theorem witness_RegistersAtTheBus :
    State.reset.busRead 0xFF00 = some 0xCF ∧ State.reset.ppu.lcdc.getLsbD 7 = true ∧
      ({ State.reset.ppu with lcdc := 0x11 } : Ppu).lcdc.getLsbD 7 = false := by decide

/-- The kinds, the gate closed and open, RAM absent and present, and the boundaries of the windows. -/
theorem witness_CartridgeBanking :
    State.reset.cart.kind = .noMbc ∧ State.reset.cart.ramSize ≤ (0xA000 : Word).toNat - 0xA000 ∧
    (0xBFFF : Word).toNat - 0xA000 < ({ Cart.empty with ramSize := 0x2000 } : Cart).ramSize ∧
    (let s := mbc1 0xA 1 3 1
     s.cart.kind = .mbc1 ∧ s.cart.romSize = 0x8000 * 2 ^ 2 ∧ s.cart.ramg = 0xA ∧ 0 < s.cart.ramSize ∧ (mbc1 0 1 0 0).cart.ramg ≠ 0xA) ∧
    ((0x1FFF : Word).toNat < 0x2000 ∧ 0x2000 ≤ (0x3FFF : Word).toNat ∧ (0x3FFF : Word).toNat < 0x4000 ∧ 0x4000 ≤ (0x5FFF : Word).toNat ∧
      (0x5FFF : Word).toNat < 0x6000 ∧ 0x6000 ≤ (0x7FFF : Word).toNat ∧ (0x7FFF : Word).toNat < 0x8000) := by decide

set_option maxRecDepth 8000 in
/-- An accepted header; one with an unsupported type; one with a wrong checksum; one with a bad size code. -/
theorem witness_CartridgeConstruction :
    (0x150 ≤ (image 0x00 0xE7).length ∧
      (((List.range 25).map fun i => ((image 0x00 0xE7).getD (0x134 + i) 0).toNat).sum + 25 + 0xE7) % 256 = 0) ∧
    (0x150 ≤ (image 0x05 0xE2).length ∧ ((image 0x05 0xE2).getD 0x147 0).toNat = 5 ∧
      (((List.range 25).map fun i => ((image 0x05 0xE2).getD (0x134 + i) 0).toNat).sum + 25 + 0xE2) % 256 = 0) ∧
    ((((List.range 25).map fun i => ((image 0x00 0x18).getD (0x134 + i) 0).toNat).sum + 25 + 0x18) % 256 ≠ 0) ∧
    (((List.range 25).map fun i => (((image 0x00 0xDE).set 0x148 9).getD (0x134 + i) 0).toNat).sum + 25 + 0xDE) % 256 = 0 := by
  decide

set_option maxRecDepth 8000 in
/-- An image that constructs; one with an unsupported type, and one too short. -/
theorem witness_LoadedCartridgeIsInMemory :
    Cart.ofImage (image 0x00 0xE7) = .ok Cart.empty ∧ ([0x12] : List Byte)[0]? = some 0x12 ∧
      Cart.ofImage (image 0x05 0xE2) = .error (.unsupportedMbc 0x05) ∧ Cart.ofImage [] = .error .invalidRom := ⟨rfl, rfl, rfl, rfl⟩

/-- One below and at the points where DIV_ACC and TIMA_ACC turn, TIMA at its overflow, and TIMA_ACC at the period and far above it. -/
theorem witness_TimerAdvancesByCycles :
    let s : State := { State.reset with timer := { div := 0xFF, tima := 0xFF, tma := 0x80, tac := 0x05, divAcc := 255, timaAcc := 3 } }
    s.timer.divAcc < 256 ∧ s.timer.timaAcc < 4 ^ (s.timer.tac.toNat % 4) ∧ s.timer.divAcc = 255 ∧ s.timer.tac.toNat / 4 % 2 = 1 ∧
      s.timer.timaAcc + 1 = 4 ^ (s.timer.tac.toNat % 4) ∧ s.timer.tima = 0xFF ∧ State.reset.timer.tac.toNat / 4 % 2 ≠ 1 ∧
      State.reset.timer.divAcc < 255 ∧
    let late (n : Nat) : State := { s with timer := { s.timer with timaAcc := n } }
    (late 4).timer.tac.toNat / 4 % 2 = 1 ∧ 4 ^ (s.timer.tac.toNat % 4) ≤ (late 4).timer.timaAcc ∧
      4 ^ (s.timer.tac.toNat % 4) ≤ (late 255).timer.timaAcc := by decide

/-- At reset no condition of the line is enabled; with the coincidence enabled the line rises. -/
theorem witness_StatLineIsEdgeTriggered :
    State.reset.ppu.stat.getLsbD 6 = false ∧
    let s : State := { State.reset with ppu := { State.reset.ppu with statHi := 0b01000 } }
    s.ppu.ly = s.ppu.lyc ∧ s.ppu.stat.getLsbD 6 = true ∧ s.ppu.statLine = false := by decide

/-- One dot below the end of a mode, the end of each, and the lines at which HBlank and VBlank turn. -/
theorem witness_PpuModeMachine :
    let at' (m : PpuMode) (ly : Byte) (dots : Nat) : State :=
      { State.reset with ppu := { State.reset.ppu with mode := m, ly := ly, dots := dots } }
    State.reset.ppu.lcdc.toNat ≥ 128 ∧ State.reset.ppu.lcdWasOff = false ∧
    (at' .oamScan 0 75).ppu.dots + 4 < 80 ∧ (at' .oamScan 0 76).ppu.dots + 4 = 80 ∧ (at' .draw 143 168).ppu.dots + 4 = 172 ∧
    ((at' .hblank 142 200).ppu.dots + 4 = 204 ∧ (at' .hblank 142 200).ppu.ly.toNat < 143) ∧
    ((at' .hblank 143 200).ppu.dots + 4 = 204 ∧ (at' .hblank 143 200).ppu.ly = 143) ∧
    ((at' .vblank 152 452).ppu.dots + 4 = 456 ∧ (at' .vblank 152 452).ppu.ly.toNat < 153) ∧
    ((at' .vblank 153 452).ppu.dots + 4 = 456 ∧ (at' .vblank 153 452).ppu.ly = 153) := by decide

theorem witness_FrameLasts70224Cycles :
    State.reset.ppu.lcdc.getLsbD 7 = true ∧ State.reset.ppu.lcdWasOff = false ∧ State.reset.ppu.mode = .oamScan ∧
      State.reset.ppu.dots = 0 ∧ State.reset.ppu.ly = 0 := by decide

theorem witness_LcdOffFreezesThePpu :
    ({ State.reset.ppu with lcdc := 0x7F } : Ppu).lcdc.getLsbD 7 = false ∧
      ({ State.reset.ppu with lcdc := 0x80, lcdWasOff := true } : Ppu).lcdc.getLsbD 7 = true ∧
      ({ State.reset.ppu with lcdc := 0x80, lcdWasOff := true } : Ppu).lcdWasOff = true := by decide

/-- BG off and on, sprites off, the first column of a window and the column before it, the last line. -/
theorem witness_BackgroundAndWindowPixels :
    (0xF0 : Byte).getLsbD 0 = false ∧ (0xF1 : Byte).getLsbD 0 = true ∧ (0xF1 : Byte).getLsbD 1 = false ∧
      ((0xF1 : Byte).getLsbD 5 = true ∧ 143 ≥ (143 : Byte).toNat ∧ 152 + 7 ≥ (159 : Byte).toNat) ∧ ¬(151 + 7 ≥ (159 : Byte).toNat) ∧
      (143 : Byte).toNat < 144 := by decide

theorem witness_SpritePixelsAreTheLoopOfTheRule : (159 : Nat) < 160 ∧ (picture 0x93 []).ppu.lcdc.getLsbD 1 = true := by decide

/-- A transfer at its first and last byte and at its end, where two updates go on and where the first raises; a byte that is there and one that is
not. -/
theorem witness_DmaAtEveryIndex :
    (∀ n ∈ [0, 159, 160],
      let s : State := { State.reset with dma := { reg := 0xC0, active := decide (n < 160), src := 0xC000, index := n, acc := 0 } }
      s.dma.index ≤ 160 ∧ (s.dma.active = true ↔ s.dma.index < 160) ∧ s.dma.acc = 0 ∧ (∃ t, s.dmaUpdate 1 = .next t) ∧
        s.busRead (s.dma.src + BitVec.ofNat 16 s.dma.index) = some 0x00) ∧
    let s : State := { strictAt 0 with dma := { reg := 0xFF, active := true, src := 0xFF00, index := 3, acc := 0 } }
    s.dma.index < 160 ∧ s.busRead (s.dma.src + BitVec.ofNat 16 s.dma.index) = none ∧ s.dmaUpdate 1 = s.busFault 0xFF03 := by
  refine ⟨?_, by decide, by decide, rfl⟩
  intro n hn
  simp only [List.mem_cons, List.not_mem_nil, or_false] at hn
  obtain rfl | rfl | rfl := hn
  all_goals exact ⟨by decide, by decide, rfl, ⟨_, rfl⟩, by decide⟩

/-- No transfer; a transfer just started, under OpenBus and, from page 0xFF, under Fault, where the fourth byte raises. -/
theorem witness_DmaCopiesOneBytePerCycle :
    State.reset.dma.active = false ∧
    (let s : State := { State.reset with dma := { reg := 0xFF, active := true, src := 0xFF00, index := 0, acc := 0 } }
     s.dma = { reg := 0xFF, active := true, src := BitVec.ofNat 16 ((0xFF : Byte).toNat * 256), index := 0, acc := 0 } ∧ s.policy = .openBus) ∧
    (strictAt 0).policy = .fault ∧
    ((match State.dmaUpdate { strictAt 0 with dma := Dma.begin 0xFF } 4 with
      | .fault (.busRoutingError a _) => some a
      | _ => none) = some 0xFF03) ∧
    (match State.dmaUpdate { strictAt 0 with dma := Dma.begin 0xFF } 3 with
      | .next t => some t.dma.index
      | _ => none) = some 3 := by decide

/-- The opcode at 0xFF03; the operand of LD A,n8, the second operand byte of JP a16 and the byte after the prefix there; and under the halt bug, where
the first operand byte is read at the opcode, the second operand byte. -/
theorem witness_UnansweredFetchRaises :
    let at' (pc : Word) (sb sc : Byte) (bug : Bool) : State :=
      { strictAt 0 with regs := { r0 with pc := pc }, serial := { sb := sb, sc := sc }, haltBug := bug }
    ((at' 0xFF03 0 0 false).fault = none ∧ (at' 0xFF03 0 0 false).applyInput.halted = false ∧ ¬(at' 0xFF03 0 0 false).applyInput.Answers 0xFF03) ∧
    (∀ x ∈ ([(0xFF02, 0x3E, [], false), (0xFF01, 0xC3, [0x00], false), (0xFF02, 0xCB, [], false), (0xFF02, 0xC3, [0xC3], true)] :
        List (Word × Byte × List Byte × Bool)),
      let u := (at' x.1 x.2.1 (x.2.2.1.headD x.2.1) x.2.2.2).applyInput
      u.halted = false ∧ u.memRead u.regs.pc = some x.2.1 ∧
        (∀ v ∈ x.2.2.1, u.memRead (if u.haltBug then u.regs.pc else u.regs.pc + 1) = some v) ∧
        decode (x.2.1 :: x.2.2.1) = .error (.missingOperand x.2.1) ∧
        ¬u.Answers ((if u.haltBug then u.regs.pc else u.regs.pc + 1) + BitVec.ofNat 16 x.2.2.1.length)) := by
  unfold State.Answers
  exact ⟨⟨rfl, rfl, by decide⟩, by decide⟩

/-- A state that satisfies the invariant and steps. -/
theorem witness_StepKeepsTheInvariant : State.Inv (mbc1 0xA 1 3 1) ∧ ∃ t, step (mbc1 0xA 1 3 1) = .next t := by
  refine ⟨?_, _, rfl⟩
  constructor
  case cells =>
    intro c hc
    simp only [Cart.physical]
    have h : romBase ≤ c.1 := by revert c; decide
    simp [h]
  all_goals decide

/-- An edge in each group, and a press in a group that is not selected. -/
theorem witness_JoypadReadsAndRequests :
    let at' (sel : BitVec 2) : Joypad := { State.reset.joypad with sel := sel }
    (((at' 1).sel.getLsbD 1 = false ∧ (at' 1).buttons.start = false) ∧ ((at' 2).sel.getLsbD 0 = false ∧ (at' 2).buttons.down = false)) ∧
      ¬((at' 1).sel.getLsbD 0 = false) ∧ ¬((at' 3).sel.getLsbD 1 = false) := by decide

end Sys2Proof.Tests
end

section
/-! The fetch the bus does not answer (spec/46_system.md R700, R702, R713, spec/60_exceptions.md R801): what the opcode fetch leaves of the
CPU's accesses, the operand reads that raise, the lists of bytes that end inside an instruction, and with them the raising step. -/

namespace Sys2Proof.Machine

/-! ### Accesses of a state and after the opcode fetch -/

/-- What the CPU reads from a list of addresses depends on its reads alone. -/
theorem readsAt_congr {s t : State} (h : ∀ a, t.memRead a = s.memRead a) (a : Word) (vs : List Byte) :
    t.ReadsAt a vs ↔ s.ReadsAt a vs := by
  induction vs generalizing a with
  | nil => exact Iff.rfl
  | cons v vs ih => simp only [State.ReadsAt, h, ih]

@[simp] theorem readsAt_singleton (s : State) (a : Word) (v : Byte) : s.ReadsAt a [v] ↔ s.memRead a = some v := by
  simp [State.ReadsAt]

@[simp] theorem setPc_self (s : State) : s.setPc s.regs.pc = s := rfl

@[simp] theorem answers_setPc (s : State) (v a : Word) : (s.setPc v).Answers a ↔ s.Answers a := Iff.rfl

@[simp] theorem memRead_afterOpcodeFetch (s : State) (a : Word) : s.afterOpcodeFetch.memRead a = s.memRead a := by
  rw [afterOpcodeFetch_eq]
  rfl

@[simp] theorem readsAt_afterOpcodeFetch (s : State) (a : Word) (vs : List Byte) :
    s.afterOpcodeFetch.ReadsAt a vs ↔ s.ReadsAt a vs :=
  readsAt_congr (memRead_afterOpcodeFetch s) a vs

@[simp] theorem answers_afterOpcodeFetch (s : State) (a : Word) : s.afterOpcodeFetch.Answers a ↔ s.Answers a := by
  simp only [answers_iff, memRead_afterOpcodeFetch]

theorem pc_afterOpcodeFetch (s : State) :
    s.afterOpcodeFetch.regs.pc = if s.haltBug then s.regs.pc else s.regs.pc + 1 := by
  rw [afterOpcodeFetch_eq]

/-! ### Reads that raise -/

/-- A read no device answers raises, with the state as it is (R801). -/
theorem readThen_of_not_answers {s : State} {a : Word} (k : Byte → Result) (h : ¬s.Answers a) : s.readThen a k = s.busFault a :=
  readThen_none k (memRead_of_not_answers h)

theorem imm8Then_of_not_answers {s : State} (k : Byte → State → Result) (h : ¬s.Answers s.regs.pc) :
    s.imm8Then k = s.busFault s.regs.pc :=
  readThen_of_not_answers _ h

theorem imm8Then_of_memRead {s : State} {v : Byte} (k : Byte → State → Result) (h : s.memRead s.regs.pc = some v) :
    s.imm8Then k = k v (s.setPc (s.regs.pc + 1)) :=
  readThen_some _ h

theorem imm16Then_of_low_not_answers {s : State} (k : Word → State → Result) (h : ¬s.Answers s.regs.pc) :
    s.imm16Then k = s.busFault s.regs.pc :=
  imm8Then_of_not_answers _ h

/-- Where the high byte is not answered, PC is past the low byte (R801). -/
theorem imm16Then_of_high_not_answers {s : State} {lo : Byte} (k : Word → State → Result) (hlo : s.memRead s.regs.pc = some lo)
    (h : ¬s.Answers (s.regs.pc + 1)) : s.imm16Then k = (s.setPc (s.regs.pc + 1)).busFault (s.regs.pc + 1) :=
  (imm8Then_of_memRead _ hlo).trans (imm8Then_of_not_answers _ h)

/-! ### The bytes of an unfinished instruction -/

/-- A list of bytes that ends inside an instruction: the opcode alone of a form with more bytes, or the opcode and the low byte
of a 16-bit operand (R300, R313). -/
theorem decode_missingOperand_cases {op : Byte} {ops : List Byte} (h : decode (op :: ops) = .error (.missingOperand op)) :
    (ops = [] ∧ ((∃ f, formatOf op = .op8 f) ∨ formatOf op = .cb ∨ ∃ f, formatOf op = .op16 f)) ∨
      ∃ lo f, ops = [lo] ∧ formatOf op = .op16 f := by
  unfold decode at h
  cases hf : formatOf op with
  | op i => simp [hf] at h
  | op8 f =>
    cases ops with
    | nil => simp
    | cons n rest => simp [hf] at h
  | op16 f =>
    match ops with
    | [] => simp
    | [lo] => simp
    | lo :: hi :: rest => simp [hf] at h
  | cb =>
    cases ops with
    | nil => simp
    | cons sub rest => simp [hf] at h

/-! ### The fetch and the step that raise -/

theorem fetchThen_of_opcode_not_answers {s : State} (k : Instr → State → Result) (h : ¬s.Answers s.regs.pc) :
    s.fetchThen k = s.busFault s.regs.pc :=
  readThen_of_not_answers _ h

/-- A fetch that meets an unanswered address after the opcode and `ops` raises there, with PC at that address and the effects of the
opcode fetch done (R801). -/
theorem fetchThen_of_operand_not_answers {s : State} {op : Byte} {ops : List Byte} (k : Instr → State → Result)
    (hop : s.memRead s.regs.pc = some op) (hops : s.ReadsAt s.afterOpcodeFetch.regs.pc ops)
    (hd : decode (op :: ops) = .error (.missingOperand op))
    (hm : ¬s.Answers (s.afterOpcodeFetch.regs.pc + BitVec.ofNat 16 ops.length)) :
    s.fetchThen k = (s.afterOpcodeFetch.setPc (s.afterOpcodeFetch.regs.pc + BitVec.ofNat 16 ops.length)).busFault
      (s.afterOpcodeFetch.regs.pc + BitVec.ofNat 16 ops.length) := by
  rw [← answers_afterOpcodeFetch] at hm
  rw [← readsAt_afterOpcodeFetch] at hops
  unfold State.fetchThen
  rw [readThen_some _ hop]
  generalize s.afterOpcodeFetch = s1 at hops hm ⊢
  obtain ⟨rfl, hf⟩ | ⟨lo, f, rfl, hf⟩ := decode_missingOperand_cases hd
  · simp only [List.length_nil, BitVec.add_zero, setPc_self] at hm ⊢
    obtain ⟨f, hf⟩ | hf | ⟨f, hf⟩ := hf <;> rw [hf]
    · exact imm8Then_of_not_answers _ hm
    · exact imm8Then_of_not_answers _ hm
    · exact imm16Then_of_low_not_answers _ hm
  · rw [hf]
    exact imm16Then_of_high_not_answers _ ((readsAt_singleton _ _ _).mp hops) hm

theorem cpuStep_of_running {s : State} (h : s.halted = false) : s.cpuStep = s.fetchThen exec := by
  simp [State.cpuStep, h]

/-- A step of a running machine delivers the snapshots due and runs one iteration (R872, R880). -/
theorem step_of_running {s : State} (h : s.fault = none) : step s = s.applyInput.iteration := by
  simp [step, State.advance, h]

/-- A CPU step that raises ends the step with its fault: nothing after it happens (R801). -/
theorem step_of_cpuStep_busFault {s t : State} {a : Word} (h : s.fault = none) (hc : s.applyInput.cpuStep = t.busFault a) :
    step s = t.busFault a := by
  rw [step_of_running h, State.iteration, hc]
  rfl

/-- Settles O60, by one lemma about the fetch for each of the two points at which it can be unanswered: the opcode's address and an
operand byte's. -/
theorem unansweredFetchRaises : Obligations.UnansweredFetchRaises := by
  intro s hs u hu
  have raises {t : State} {a : Word} (h : u.fetchThen exec = t.busFault a) : step s = t.busFault a :=
    step_of_cpuStep_busFault hs ((cpuStep_of_running hu).trans h)
  refine ⟨fun h => raises (fetchThen_of_opcode_not_answers _ h), ?_⟩
  intro op ops first missing hop hops hd hm
  have hpc : u.afterOpcodeFetch.regs.pc = first := pc_afterOpcodeFetch u
  have hfetch := fetchThen_of_operand_not_answers exec hop (hpc ▸ hops) hd (hpc ▸ hm)
  rw [hpc, afterOpcodeFetch_eq] at hfetch
  exact raises hfetch

end Sys2Proof.Machine
end

section
/-! What ends in a state and what ends in a fault (spec/60_exceptions.md R800, R801): the rules by which an operation of the machine ensures a
property of its next state, and raises with the record kept where it raises. -/

namespace Sys2Proof.Machine

/-- A result ends in a next state with `P`, or in a fault that carries a state which keeps its record (R110, R800). It is no refusal. -/
def Ensures (o : Result) (P : State → Prop) : Prop :=
  match o with
  | .next t => P t
  | .fault f => ∃ r t, f = Fault.of r t ∧ t.fault = some r
  | .refused _ => False

theorem Ensures.next {o : Result} {P : State → Prop} {t : State} (h : Ensures o P) (ho : o = .next t) : P t := by
  subst ho
  exact h

theorem Ensures.fault {o : Result} {P : State → Prop} {f : Fault} (h : Ensures o P) (ho : o = .fault f) :
    ∃ r t, f = Fault.of r t ∧ t.fault = some r := by
  subst ho
  exact h

/-- A property of every next state can be added to what a result ensures. -/
theorem Ensures.of_next {o : Result} {P Q : State → Prop} (h : Ensures o P) (hq : ∀ t, o = .next t → P t → Q t) : Ensures o Q := by
  cases o with
  | next t => exact hq t rfl h
  | fault f => exact h
  | refused r => exact h

theorem Ensures.mono {o : Result} {P Q : State → Prop} (h : Ensures o P) (hq : ∀ t, P t → Q t) : Ensures o Q :=
  h.of_next fun t _ => hq t

theorem ensures_raise (s : State) (r : FaultRecord) (P : State → Prop) : Ensures (s.raise r) P := ⟨r, _, rfl, rfl⟩

theorem ensures_andThen {o : Result} {k : State → Result} {P Q : State → Prop} (h : Ensures o P) (hk : ∀ u, P u → Ensures (k u) Q) :
    Ensures (andThen o k) Q := by
  cases o with
  | next t => exact hk t h
  | fault f => exact h
  | refused r => exact h

theorem ensures_ite {c : Prop} [Decidable c] {o p : Result} {P : State → Prop} (ho : c → Ensures o P) (hp : ¬c → Ensures p P) :
    Ensures (if c then o else p) P := by
  split
  · exact ho ‹_›
  · exact hp ‹_›

theorem ensures_readThen {s : State} {a : Word} {k : Byte → Result} {P : State → Prop} (hk : ∀ v, Ensures (k v) P) :
    Ensures (s.readThen a k) P := by
  unfold State.readThen
  split
  · exact hk _
  · exact ensures_raise _ _ _

theorem ensures_writeThen {s : State} {a : Word} {v : Byte} {k : State → Result} {P : State → Prop}
    (hk : ∀ t, s.memWrite a v = some t → Ensures (k t) P) : Ensures (s.writeThen a v k) P := by
  unfold State.writeThen
  split
  · exact hk _ ‹_›
  · exact ensures_raise _ _ _

theorem ensures_pop16Then {s : State} {k : Word → State → Result} {P : State → Prop} (hk : ∀ v sp, Ensures (k v (s.setSp sp)) P) :
    Ensures (s.pop16Then k) P :=
  ensures_readThen fun _ => ensures_readThen fun _ => hk _ _

theorem ensures_imm8Then {s : State} {k : Byte → State → Result} {P : State → Prop} (hk : ∀ v pc, Ensures (k v (s.setPc pc)) P) :
    Ensures (s.imm8Then k) P :=
  ensures_readThen fun _ => hk _ _

theorem ensures_imm16Then {s : State} {k : Word → State → Result} {P : State → Prop} (hk : ∀ v pc, Ensures (k v (s.setPc pc)) P) :
    Ensures (s.imm16Then k) P :=
  ensures_imm8Then fun _ _ => ensures_imm8Then fun _ _ => hk _ _

/-- A fetch goes on from the state after the opcode fetch, with PC moved past the operand bytes (R700). -/
theorem ensures_fetchThen {s : State} {k : Instr → State → Result} {P : State → Prop}
    (hk : ∀ i pc, Ensures (k i (s.afterOpcodeFetch.setPc pc)) P) : Ensures (s.fetchThen k) P := by
  refine ensures_readThen fun op => ?_
  dsimp only
  split
  · exact hk _ s.afterOpcodeFetch.regs.pc
  · exact ensures_imm8Then fun _ _ => hk _ _
  · exact ensures_imm16Then fun _ _ => hk _ _
  · exact ensures_imm8Then fun _ _ => hk _ _

end Sys2Proof.Machine
end

section
/-! What an instruction can do (spec/10_state.md R102 to R109): it writes memory and registers but F, and then ends, after a write of F
or of the control state where it is one of those whose rules list them. One case split over the forms says it for every instruction. -/

namespace Sys2Proof.Machine

/-- `t` comes from `s` by writes of the CPU and of registers other than F. -/
inductive Touches (s : State) : State → Prop
  | refl : Touches s s
  | write {t u : State} {a : Word} {v : Byte} (h : Touches s t) (hw : t.memWrite a v = some u) : Touches s u
  | regs {t : State} {r : Regs} (h : Touches s t) (hf : r.f = t.regs.f) : Touches s { t with regs := r }

namespace Touches

theorem setReg {s t : State} (h : Touches s t) (r : Reg8) (v : Byte) : Touches s (t.setReg r v) := by
  cases r <;> exact h.regs rfl

theorem setReg16 {s t : State} (h : Touches s t) (r : Reg16) (v : Word) : Touches s (t.setReg16 r v) := by
  cases r <;> exact h.regs rfl

theorem setSp {s t : State} (h : Touches s t) (v : Word) : Touches s (t.setSp v) := h.regs rfl

theorem setPc {s t : State} (h : Touches s t) (v : Word) : Touches s (t.setPc v) := h.regs rfl

/-- Touching leaves F, the control state and everything outside the devices and memory. -/
theorem frame {s t : State} (h : Touches s t) :
    t.regs.f = s.regs.f ∧
      t = { s with regs := t.regs, ie := t.ie, iflag := t.iflag, timer := t.timer, ppu := t.ppu, dma := t.dma, joypad := t.joypad
                   serial := t.serial, cart := t.cart, mem := t.mem } := by
  induction h with
  | refl => exact ⟨rfl, rfl⟩
  | write h hw ih =>
    obtain ⟨hf, he⟩ := ih
    exact ⟨by rw [memWrite_regs hw, hf], by rw [memWrite_eq hw, he]⟩
  | regs h hf ih =>
    obtain ⟨hf', he⟩ := ih
    exact ⟨hf.trans hf', by rw [he]⟩

end Touches

theorem ensures_push16Then {s : State} {v : Word} {k : State → Result} {P : State → Prop} (hk : ∀ t, Touches s t → Ensures (k t) P) :
    Ensures (s.push16Then v k) P :=
  ensures_writeThen fun _ h1 => ensures_writeThen fun _ h2 => hk _ ((((Touches.refl.setSp _).write h1).setSp _).write h2)

/-- The forms of the instructions whose rules list flags (R104). -/
def Form.writesFlags (x : Form) : Bool :=
  match x with
  | .loadHlSp _ | .popAf | .aluOnReg _ _ | .aluOnHl _ | .aluOnN8 _ _ | .incReg _ | .decReg _ | .incAtHl | .decAtHl | .daa | .cpl | .scf
  | .ccf | .addToHl _ | .addSp _ | .rotA _ | .rotOnReg _ _ | .rotOnHl _ | .bitOnReg _ _ | .bitOnHl _ | .prefixCb _ => true
  | _ => false

/-- The cycle count a form carries, where it carries one, is at most 24. -/
def Form.cyclesBounded (x : Form) : Bool :=
  match x with
  | .loadAFrom _ n | .storeATo _ n | .callTo _ n | .returnTo n => decide (n ≤ 24)
  | _ => true

theorem cyclesBounded_formOf (i : Instr) : (formOf i).cyclesBounded = true := by
  cases i <;> rfl

/-- What a form does to a state, but for the cycles it reports. -/
inductive Form.Effect (x : Form) (s : State) : State → Prop
  /-- It touches memory and registers. -/
  | plain {t : State} (h : Touches s t) : x.Effect s t
  /-- Then it writes F. -/
  | flags {t : State} {v : Byte} (h : Touches s t) (hx : x.writesFlags = true) : x.Effect s (t.setF v)
  /-- Or then it writes the control state its rule names (R106 to R109). -/
  | control {t : State} {ime pending halted bug : Bool} (h : Touches s t) (hi : ime = t.ime ∨ x = .di ∨ x = .reti)
      (hp : pending = t.imePending ∨ x = .di ∨ x = .ei) (hh : halted = t.halted ∨ x = .halt) (hb : bug = t.haltBug ∨ x = .halt) :
      x.Effect s { t with ime := ime, imePending := pending, halted := halted, haltBug := bug }

/-- What a form does to a state: its effect, and a report of at most 24 cycles (R920). -/
def Form.Does (x : Form) (s t : State) : Prop := ∃ u n, x.Effect s u ∧ n ≤ 24 ∧ t = { u with cycles := n }

theorem ensures_done {x : Form} {s u : State} {n : Nat} (h : x.Effect s u) (hn : n ≤ 24) : Ensures (u.done n) (x.Does s) :=
  ⟨u, n, h, hn, rfl⟩

theorem ensures_plain {x : Form} {s u : State} {n : Nat} (h : Touches s u) (hn : n ≤ 24) : Ensures (u.done n) (x.Does s) :=
  ensures_done (.plain h) hn

theorem ensures_setF {x : Form} {s u : State} {v : Byte} {n : Nat} (hx : x.writesFlags = true) (h : Touches s u) (hn : n ≤ 24) :
    Ensures ((u.setF v).done n) (x.Does s) :=
  ensures_done (.flags h hx) hn

/-! ### The shared operations -/

section
variable {x : Form} (s : State)

theorem ensures_loadA (a : Word) {n : Nat} (hn : n ≤ 24) : Ensures (loadA a n s) (x.Does s) :=
  ensures_readThen fun _ => ensures_plain (Touches.refl.setReg _ _) hn

/-- One write and nothing else. -/
theorem ensures_store (a : Word) (v : Byte) {n : Nat} (hn : n ≤ 24) : Ensures (s.writeThen a v fun t => t.done n) (x.Does s) :=
  ensures_writeThen fun _ hw => ensures_plain (Touches.refl.write hw) hn

theorem ensures_push (v : Word) {n : Nat} (hn : n ≤ 24) : Ensures (s.push16Then v fun t => t.done n) (x.Does s) :=
  ensures_push16Then fun _ ht => ensures_plain ht hn

theorem ensures_callTo (t : Word) {n : Nat} (hn : n ≤ 24) : Ensures (callTo t n s) (x.Does s) :=
  ensures_push16Then fun _ ht => ensures_plain (ht.setPc t) hn

theorem ensures_returnTo {n : Nat} (hn : n ≤ 24) : Ensures (returnTo n s) (x.Does s) :=
  ensures_pop16Then fun v sp => ensures_plain ((Touches.refl.setSp sp).setPc v) hn

theorem ensures_setReg (r : Reg8) (v : Byte) {n : Nat} (hn : n ≤ 24) : Ensures ((s.setReg r v).done n) (x.Does s) :=
  ensures_plain (Touches.refl.setReg r v) hn

theorem ensures_mapAtHl (f : Byte → Byte) : Ensures (mapAtHl f s) (x.Does s) :=
  ensures_readThen fun _ => ensures_store s _ _ (by decide)

theorem ensures_aluTo (hx : x.writesFlags = true) (op : AluOp) (v : Byte) {n : Nat} (hn : n ≤ 24) :
    Ensures ((s.aluTo op v).done n) (x.Does s) := by
  refine ensures_setF hx ?_ hn
  split
  · exact .refl
  · exact Touches.refl.setReg _ _

/-- A register and the flags. -/
theorem ensures_setReg_setFlags (hx : x.writesFlags = true) (r : Reg8) (v : Byte) (f : Flags) {n : Nat} (hn : n ≤ 24) :
    Ensures (((s.setReg r v).setFlags f).done n) (x.Does s) :=
  ensures_setF hx (Touches.refl.setReg r v) hn

/-- A byte in memory and the flags, each a function of the byte read. -/
theorem ensures_updateAtHl (hx : x.writesFlags = true) (res : Byte → Byte) (f : Byte → Flags) {n : Nat} (hn : n ≤ 24) :
    Ensures (s.readThen s.hl fun v => s.writeThen s.hl (res v) fun t => (t.setFlags (f v)).done n) (x.Does s) :=
  ensures_readThen fun _ => ensures_writeThen fun _ hw => ensures_setF hx (Touches.refl.write hw) hn

theorem ensures_bitOnReg (hx : x.writesFlags = true) (b : Fin 8) (r : Reg8) : Ensures (bitOnReg b r s) (x.Does s) :=
  ensures_setF hx .refl (by decide)

theorem ensures_bitOnHl (hx : x.writesFlags = true) (b : Fin 8) : Ensures (bitOnHl b s) (x.Does s) :=
  ensures_readThen fun _ => ensures_setF hx .refl (by decide)

/-- PREFIX CB runs one of six operations (R713). -/
theorem ensures_execPrefixCb (hx : x.writesFlags = true) (sub : Byte) : Ensures (execPrefixCb sub s) (x.Does s) := by
  unfold execPrefixCb
  dsimp only
  split
  · exact ensures_setReg_setFlags s hx _ _ _ (by decide)
  · exact ensures_updateAtHl s hx _ _ (by decide)
  · exact ensures_bitOnReg s hx _ _
  · exact ensures_bitOnHl s hx _
  · exact ensures_setReg s _ _ (by decide)
  · exact ensures_mapAtHl s _
  · exact ensures_setReg s _ _ (by decide)
  · exact ensures_mapAtHl s _

end

/-- What every form does: the one case split over the forms. -/
theorem run_ensures (x : Form) (hx : x.cyclesBounded = true) (s : State) : Ensures (x.run s) (x.Does s) := by
  cases x with
  | loadReg r r2 => exact ensures_setReg s r _ (by decide)
  | loadRegAtHl r => exact ensures_readThen fun v => ensures_setReg s r v (by decide)
  | storeRegAtHl r => exact ensures_store s _ _ (by decide)
  | loadRegN8 r n => exact ensures_setReg s r n (by decide)
  | storeN8AtHl n => exact ensures_store s _ _ (by decide)
  | loadAFrom a n => exact ensures_loadA s _ (of_decide_eq_true hx)
  | storeATo a n => exact ensures_store s _ _ (of_decide_eq_true hx)
  | loadAHlStep w => exact ensures_readThen fun v => ensures_plain ((Touches.refl.setReg .a v).setReg16 .hl _) (by decide)
  | storeAHlStep w => exact ensures_writeThen fun _ hw => ensures_plain ((Touches.refl.write hw).setReg16 .hl _) (by decide)
  | loadR16 r w => exact ensures_plain (Touches.refl.setReg16 r w) (by decide)
  | storeSp a =>
    exact ensures_writeThen fun _ h1 => ensures_writeThen fun _ h2 => ensures_plain ((Touches.refl.write h1).write h2) (by decide)
  | loadSpHl => exact ensures_plain (Touches.refl.setSp _) (by decide)
  | loadHlSp e => exact ensures_setF rfl (Touches.refl.setReg16 .hl _) (by decide)
  | pushR16 p => exact ensures_push s _ (by decide)
  | pushAf => exact ensures_push s _ (by decide)
  | popR16 p =>
    unfold Form.run Machine.popR16
    exact ensures_pop16Then fun v sp => ensures_plain ((Touches.refl.setSp sp).setReg16 _ v) (by decide)
  | popAf =>
    unfold Form.run execPopAf
    exact ensures_pop16Then fun v sp => ensures_setF rfl ((Touches.refl.setSp sp).setReg .a _) (by decide)
  | aluOnReg op r => exact ensures_aluTo s rfl op _ (by decide)
  | aluOnHl op => exact ensures_readThen fun v => ensures_aluTo s rfl op v (by decide)
  | aluOnN8 op n => exact ensures_aluTo s rfl op n (by decide)
  | incReg r => exact ensures_setReg_setFlags s rfl r _ _ (by decide)
  | decReg r => exact ensures_setReg_setFlags s rfl r _ _ (by decide)
  | incAtHl => exact ensures_updateAtHl s rfl _ _ (by decide)
  | decAtHl => exact ensures_updateAtHl s rfl _ _ (by decide)
  | daa => exact ensures_setReg_setFlags s rfl .a _ _ (by decide)
  | cpl => exact ensures_setReg_setFlags s rfl .a _ _ (by decide)
  | scf => exact ensures_setF rfl .refl (by decide)
  | ccf => exact ensures_setF rfl .refl (by decide)
  | stepR16 w r => exact ensures_plain (Touches.refl.setReg16 r _) (by decide)
  | addToHl r => exact ensures_setF rfl (Touches.refl.setReg16 .hl _) (by decide)
  | addSp e => exact ensures_setF rfl (Touches.refl.setSp _) (by decide)
  | rotA op => exact ensures_setReg_setFlags s rfl .a _ _ (by decide)
  | rotOnReg op r => exact ensures_setReg_setFlags s rfl r _ _ (by decide)
  | rotOnHl op => exact ensures_updateAtHl s rfl _ _ (by decide)
  | bitOnReg b r => exact ensures_bitOnReg s rfl b r
  | bitOnHl b => exact ensures_bitOnHl s rfl b
  | resBit b r => exact ensures_setReg s r _ (by decide)
  | resBitAtHl b => exact ensures_mapAtHl s _
  | setBit b r => exact ensures_setReg s r _ (by decide)
  | setBitAtHl b => exact ensures_mapAtHl s _
  | prefixCb sub => exact ensures_execPrefixCb s rfl sub
  | jump t => exact ensures_plain (Touches.refl.setPc t) (by decide)
  | jumpIf cc t => exact ensures_ite (fun _ => ensures_plain (Touches.refl.setPc t) (by decide)) fun _ => ensures_plain .refl (by decide)
  | jumpHl => exact ensures_plain (Touches.refl.setPc _) (by decide)
  | branch e => exact ensures_plain (Touches.refl.setPc _) (by decide)
  | branchIf cc e => exact ensures_ite (fun _ => ensures_plain (Touches.refl.setPc _) (by decide)) fun _ => ensures_plain .refl (by decide)
  | callTo t n => exact ensures_callTo s t (of_decide_eq_true hx)
  | callIf cc t => exact ensures_ite (fun _ => ensures_callTo s t (by decide)) fun _ => ensures_plain .refl (by decide)
  | returnTo n => exact ensures_returnTo s (of_decide_eq_true hx)
  | returnIf cc => exact ensures_ite (fun _ => ensures_returnTo s (by decide)) fun _ => ensures_plain .refl (by decide)
  | reti =>
    unfold Form.run execReti State.returnFromInterrupt
    exact ensures_pop16Then fun v sp =>
      ensures_done (.control ((Touches.refl.setSp sp).setPc v) (.inr (.inr rfl)) (.inl rfl) (.inl rfl) (.inl rfl)) (by decide)
  | restart y => exact ensures_callTo s _ (by decide)
  | nop => exact ensures_plain .refl (by decide)
  | stop n => exact ensures_plain .refl (by decide)
  | di => exact ensures_done (.control .refl (.inr (.inl rfl)) (.inr (.inl rfl)) (.inl rfl) (.inl rfl)) (by decide)
  | ei => exact ensures_done (.control .refl (.inl rfl) (.inr (.inr rfl)) (.inl rfl) (.inl rfl)) (by decide)
  | halt =>
    exact ensures_ite
      (fun _ => ensures_done (.control .refl (.inl rfl) (.inl rfl) (.inl rfl) (.inr rfl)) (by decide))
      fun _ => ensures_done (.control .refl (.inl rfl) (.inl rfl) (.inr rfl) (.inl rfl)) (by decide)
  | illegal op => exact ensures_raise s _ _

end Sys2Proof.Machine
end

section
/-! The flags and the control state (spec/10_state.md R104, R106 to R109): which instruction a form that writes them is, and with the effect of
every form the statements about all instructions. -/

namespace Sys2Proof.Machine

/-- `i` is the instruction this form stands for, for the forms that write flags or control state. -/
def Form.Names (x : Form) (i : Instr) : Prop :=
  match x with
  | .aluOnReg op r => i = .aluReg op r
  | .aluOnHl op => i = .aluAtHl op
  | .aluOnN8 op n => i = .aluN8 op n
  | .incReg r => i = .incReg r
  | .decReg r => i = .decReg r
  | .incAtHl => i = .incAtHl
  | .decAtHl => i = .decAtHl
  | .daa => i = .daa
  | .cpl => i = .cpl
  | .scf => i = .scf
  | .ccf => i = .ccf
  | .rotA .rlc => i = .rlca
  | .rotA .rrc => i = .rrca
  | .rotA .rl => i = .rla
  | .rotA .rr => i = .rra
  | .rotA _ => False
  | .popAf => i = .popAf
  | .addToHl r => i = .addHlR16 r
  | .addSp e => i = .addSpE8 e
  | .loadHlSp e => i = .ldHlSpE8 e
  | .rotOnReg op r => i = .rotReg op r
  | .rotOnHl op => i = .rotAtHl op
  | .bitOnReg b r => i = .bitReg b r
  | .bitOnHl b => i = .bitAtHl b
  | .prefixCb sub => i = .prefixCb sub
  | .di => i = .di
  | .ei => i = .ei
  | .halt => i = .halt
  | .reti => i = .reti
  | _ => True

/-- By the instruction's row: the families of Instr reduce to their constructors. -/
theorem names_formOf (i : Instr) : (formOf i).Names i := by
  cases i <;> trivial

/-- The instruction whose flags a rule lists: the statement's own list (R104). -/
theorem listed_of_writesFlags {x : Form} {i : Instr} (hi : x.Names i) (hx : x.writesFlags = true) :
    (∃ op r, i = .aluReg op r) ∨ (∃ op, i = .aluAtHl op) ∨ (∃ op n, i = .aluN8 op n) ∨ (∃ r, i = .incReg r) ∨
    (∃ r, i = .decReg r) ∨ i ∈ [Instr.incAtHl, .decAtHl, .daa, .cpl, .scf, .ccf, .rlca, .rrca, .rla, .rra, .popAf] ∨
    (∃ rr, i = .addHlR16 rr) ∨ (∃ e, i = .addSpE8 e) ∨ (∃ e, i = .ldHlSpE8 e) ∨ (∃ op r, i = .rotReg op r) ∨
    (∃ op, i = .rotAtHl op) ∨ (∃ b r, i = .bitReg b r) ∨ (∃ b, i = .bitAtHl b) ∨ ∃ sub, i = .prefixCb sub := by
  cases x with
  | incAtHl | decAtHl | daa | cpl | scf | ccf | popAf => simp [show i = _ from hi]
  | rotA op => cases op <;> simp_all [Form.Names]
  | aluOnReg _ _ | aluOnHl _ | aluOnN8 _ _ | incReg _ | decReg _ | addToHl _ | addSp _ | loadHlSp _ | rotOnReg _ _ | rotOnHl _
  | bitOnReg _ _ | bitOnHl _ | prefixCb _ =>
    simp only [Form.Names] at hi
    grind
  | _ => cases hx

/-- What an instruction that ends in a next state did. -/
theorem exec_does {i : Instr} {s t : State} (h : exec i s = .next t) : (formOf i).Does s t :=
  (run_ensures (formOf i) (cyclesBounded_formOf i) s).next (exec_eq_run i s ▸ h)

theorem Form.Effect.flags_eq {x : Form} {s t : State} (h : x.Effect s t) : t.regs.f = s.regs.f ∨ x.writesFlags = true := by
  cases h with
  | plain h => exact .inl h.frame.1
  | flags h hx => exact .inr hx
  | control h hi hp hh hb => exact .inl h.frame.1

/-- Settles O36, by the effect of the instruction's form: F is written by the forms that stand for listed instructions. -/
theorem flagsWrittenByListedInstructionsOnly : Obligations.FlagsWrittenByListedInstructionsOnly := by
  intro i s t h
  obtain ⟨u, n, hu, -, rfl⟩ := exec_does h
  exact hu.flags_eq.imp_right (listed_of_writesFlags (names_formOf i))

theorem Form.Effect.control_eq {x : Form} {s t : State} (h : x.Effect s t) :
    (t.ime = s.ime ∨ x = .di ∨ x = .reti) ∧ (t.imePending = s.imePending ∨ x = .di ∨ x = .ei) ∧
    (t.halted = s.halted ∨ x = .halt) ∧ (t.haltBug = s.haltBug ∨ x = .halt) ∧ t.fault = s.fault ∧ t.opAddr = s.opAddr := by
  cases h with
  | plain h =>
    rw [h.frame.2]
    exact ⟨.inl rfl, .inl rfl, .inl rfl, .inl rfl, rfl, rfl⟩
  | flags h hx =>
    rw [h.frame.2]
    exact ⟨.inl rfl, .inl rfl, .inl rfl, .inl rfl, rfl, rfl⟩
  | control h hi hp hh hb =>
    rw [h.frame.2] at hi hp hh hb ⊢
    exact ⟨hi, hp, hh, hb, rfl, rfl⟩

/-- Settles O37, by the effect of the instruction's form, whose last constructor names the forms that write control state. -/
theorem controlStateChangedByNamedInstructionsOnly : Obligations.ControlStateChangedByNamedInstructionsOnly := by
  intro i s t h
  obtain ⟨u, n, hu, -, rfl⟩ := exec_does h
  have names {x : Form} (hx : formOf i = x) : x.Names i := hx ▸ names_formOf i
  obtain ⟨hi, hp, hh, hb, hf, ho⟩ := hu.control_eq
  exact ⟨hi.imp_right (.imp names names), hp.imp_right (.imp names names), hh.imp_right names, hb.imp_right names, hf, ho⟩

end Sys2Proof.Machine
end

section
/-! The invariant inside an iteration (spec/10_state.md R102, R116, R121, R126, R131, R132, spec/60_exceptions.md R841, R849, R861): State.Inv in
clauses about one component each, so that an operation is looked at for the components it changes. All of them but that of the LCD are kept by
every write of the CPU, and so by the CPU step. -/

namespace Sys2Proof.Machine

/-! ### One predicate for each component -/

/-- Memory is in its canonical form and lists bytes of the arrays of this cartridge only. -/
def Cart.Holds (c : Cart) (m : Memory) : Prop := m.wf ∧ ∀ x ∈ m, c.physical x.1

/-- The accumulators of the timer are in their ranges (R116). -/
def Timer.InRange (t : Timer) : Prop := t.divAcc < 256 ∧ t.timaAcc < 256

/-- LY is a line the mode can be on (R121, R841). -/
def Ppu.OnLine (p : Ppu) : Prop := if p.mode = .vblank then 144 ≤ p.ly.toNat ∧ p.ly.toNat < 154 else p.ly.toNat < 144

/-- The PPU between two updates: DOTS below the length of the mode, LY a line of the mode, and while the LCD was off it stands at line 0 in
mode 0 (R841, R849). -/
def Ppu.Standing (p : Ppu) : Prop :=
  p.dots < p.mode.length ∧ p.OnLine ∧ (p.lcdWasOff = true → p.mode = .hblank ∧ p.dots = 0 ∧ p.ly = 0)

/-- LCD_WAS_OFF says whether the LCD is off (R849). -/
def Ppu.LcdKnown (p : Ppu) : Prop := p.lcdWasOff = !p.lcdOn

/-- The DMA between two updates: active exactly while bytes are left, with no cycle kept (R861). -/
def Dma.Settled (d : Dma) : Prop := d.index ≤ 160 ∧ (d.active = true ↔ d.index < 160) ∧ d.acc = 0

/-- The invariant without the clause of the LCD, which a write of LCDC suspends until the PPU's next update. -/
structure State.InnerInv (s : State) : Prop where
  running : s.fault = none
  flags : s.regs.f &&& 0x0F = 0
  bank1 : s.cart.bank1 ≠ 0
  mem : s.cart.Holds s.mem
  timer : s.timer.InRange
  ppu : s.ppu.Standing
  dma : s.dma.Settled
  frameAcc : s.frameAcc < Config.cyclesPerFrame

theorem inv_iff (s : State) : s.Inv ↔ s.InnerInv ∧ s.ppu.LcdKnown := by
  constructor
  · rintro ⟨running, mem, cells, flags, bank1, divAcc, timaAcc, frameAcc, dots, line, lcd, frozen, dma⟩
    exact ⟨⟨running, flags, bank1, ⟨mem, cells⟩, ⟨divAcc, timaAcc⟩, ⟨dots, line, frozen⟩, dma, frameAcc⟩, lcd⟩
  · rintro ⟨⟨running, flags, bank1, ⟨mem, cells⟩, ⟨divAcc, timaAcc⟩, ⟨dots, line, frozen⟩, dma, frameAcc⟩, lcd⟩
    exact ⟨running, mem, cells, flags, bank1, divAcc, timaAcc, frameAcc, dots, line, lcd, frozen, dma⟩

/-! ### A write of the CPU -/

/-- An offset in CRAM is below RAM_SIZE (R255, R264). -/
theorem cramOffset_lt {c : Cart} {a k : Nat} (h : c.cramOffset a = some k) : k < c.ramSize := by
  unfold Cart.cramOffset at h
  split at h
  · obtain ⟨hc, hk⟩ := Option.ite_none_right_eq_some.mp h
    exact Option.some.inj hk ▸ hc
  · obtain ⟨⟨-, hr⟩, hk⟩ := Option.ite_none_right_eq_some.mp h
    exact Option.some.inj hk ▸ Nat.mod_lt _ hr

/-- A cell behind an address is one of the arrays (R130, R132). -/
theorem physical_of_cellOf {s : State} {a k : Nat} (h : s.cellOf a = some k) : s.cart.physical k := by
  unfold State.cellOf at h
  unfold Cart.physical
  split_ifs at h
  · obtain rfl := Option.some.inj h
    omega
  · obtain rfl := Option.some.inj h
    omega
  · obtain ⟨j, hj, rfl⟩ := Option.map_eq_some_iff.mp h
    have := cramOffset_lt hj
    omega
  all_goals
    obtain rfl := Option.some.inj h
    omega

theorem holds_write {c : Cart} {m : Memory} {k : Nat} (v : Byte) (h : c.Holds m) (hk : c.physical k) : c.Holds (m.write k v) := by
  refine ⟨Memory.wf_write m k v h.1, fun x hx => ?_⟩
  obtain rfl | hx := Memory.mem_write m k v x hx
  · exact hk
  · exact h.2 x hx

theorem holds_writeCell {s : State} (a : Nat) (v : Byte) (h : s.cart.Holds s.mem) : s.cart.Holds (s.writeCell a v).mem := by
  unfold State.writeCell
  split
  · next k hk => exact holds_write v h (physical_of_cellOf hk)
  · exact h

theorem bank1_writeRegister {c : Cart} (a : Nat) (v : Byte) (h : c.bank1 ≠ 0) : (c.writeRegister a v).bank1 ≠ 0 := by
  unfold Cart.writeRegister
  split
  · exact h
  · split_ifs
    · exact h
    · show (1 : BitVec 5) ≠ 0
      decide
    · assumption
    · exact h
    · exact h

/-- The bank controller's registers do not change which cells there are. -/
theorem holds_writeRegister {c : Cart} {m : Memory} (a : Nat) (v : Byte) (h : c.Holds m) : (c.writeRegister a v).Holds m := by
  obtain ⟨-, -, hr⟩ := writeRegister_fixed c a v
  unfold Cart.Holds Cart.physical at h ⊢
  rwa [hr]

theorem inRange_writeRegister {t : Timer} (a : Nat) (v : Byte) (h : t.InRange) : (t.writeRegister a v).InRange := by
  unfold Timer.writeRegister
  split
  · exact ⟨Nat.zero_lt_succ 255, h.2⟩
  all_goals exact h

theorem settled_begin (v : Byte) : (Dma.begin v).Settled := by
  simp [Dma.Settled, Dma.begin]

theorem standing_evalStatIfOn {s : State} (h : s.ppu.Standing) : s.evalStatIfOn.ppu.Standing := by
  unfold State.evalStatIfOn
  split <;> exact h

/-- No write of a PPU register moves the mode machine (R209); those of STAT and LYC evaluate the STAT line. -/
theorem standing_writePpuRegister {s : State} (a : Nat) (v : Byte) (h : s.ppu.Standing) : (s.writePpuRegister a v).ppu.Standing := by
  unfold State.writePpuRegister
  split
  case h_2 | h_5 => exact standing_evalStatIfOn h
  all_goals exact h

/-- A write port changes one component, and keeps its clause. -/
theorem innerInv_deviceWrite {s : State} {d : Device} {a : Nat} (v : Byte) (hd : d.accepts a = true) (h : s.InnerInv) :
    (s.deviceWrite d a v).InnerInv := by
  obtain ⟨e, -⟩ | ⟨e, -⟩ | ⟨e, -⟩ | ⟨e, -⟩ | ⟨e, -⟩ | ⟨e, -⟩ | ⟨e, -⟩ | ⟨e, -⟩ | ⟨e, -⟩ := deviceWrite_cases s d a v hd <;> rw [e]
  · have hm := holds_writeCell a v h.mem
    rw [writeCell_eq]
    exact { h with mem := hm }
  · exact { h with bank1 := bank1_writeRegister a v h.bank1, mem := holds_writeRegister a v h.mem }
  · exact { h with dma := settled_begin v }
  · have hp := standing_writePpuRegister a v h.ppu
    rw [writePpuRegister_eq]
    exact { h with ppu := hp }
  · exact { h with timer := inRange_writeRegister a v h.timer }
  all_goals exact { h with }

theorem innerInv_memWrite {s t : State} {a : Word} {v : Byte} (h : s.InnerInv) (hw : s.memWrite a v = some t) : t.InnerInv := by
  obtain rfl | ⟨d, hd, -, rfl⟩ := memWrite_cases hw
  · exact h
  · exact innerInv_deviceWrite v (accepts_of_deviceAt hd) h

/-! ### The CPU step -/

/-- A write of the registers that leaves F legal keeps the invariant. -/
theorem innerInv_regs {s : State} {r : Regs} (h : s.InnerInv) (hf : r.f &&& 0x0F = 0) : State.InnerInv { s with regs := r } :=
  { h with flags := hf }

theorem Touches.innerInv {s t : State} (ht : Touches s t) (h : s.InnerInv) : t.InnerInv := by
  induction ht with
  | refl => exact h
  | write _ hw ih => exact innerInv_memWrite ih hw
  | regs _ hf ih => exact innerInv_regs ih (hf ▸ ih.flags)

theorem Form.Effect.innerInv {x : Form} {s t : State} (ht : x.Effect s t) (h : s.InnerInv) : t.InnerInv := by
  cases ht with
  | plain ht => exact ht.innerInv h
  | flags ht hx => exact innerInv_regs (ht.innerInv h) (State.f_low_setF _ _)
  | control ht hi hp hh hb => exact { ht.innerInv h with }

theorem Form.Does.innerInv {x : Form} {s t : State} (ht : x.Does s t) (h : s.InnerInv) : t.InnerInv ∧ t.cycles ≤ 24 := by
  obtain ⟨u, n, hu, hn, rfl⟩ := ht
  exact ⟨{ hu.innerInv h with }, hn⟩

theorem innerInv_afterOpcodeFetch {s : State} (h : s.InnerInv) : s.afterOpcodeFetch.InnerInv := by
  rw [afterOpcodeFetch_eq]
  exact { h with }

theorem cpuStep_ensures (s : State) : Ensures s.cpuStep fun t => s.InnerInv → t.InnerInv ∧ t.cycles ≤ 24 := by
  refine ensures_ite (fun _ h => ?_) fun _ => ensures_fetchThen fun i pc => ?_
  · exact ⟨{ h with }, (by decide : 4 ≤ 24)⟩
  · rw [exec_eq_run]
    refine (run_ensures (formOf i) (cyclesBounded_formOf i) _).mono fun t ht h => ht.innerInv ?_
    exact innerInv_regs (innerInv_afterOpcodeFetch h) (innerInv_afterOpcodeFetch h).flags

end Sys2Proof.Machine
end

section
/-! The invariant through the updates of the units (spec/60_exceptions.md R831, R841, R849, R861, R880): the PPU's update restores the clause of the LCD,
the timer's and the DMA's keep all clauses. -/

namespace Sys2Proof.Machine

/-! ### The PPU and the timer -/

/-- A transition of the mode machine keeps LY on a line of the mode, and LCDC and LCD_WAS_OFF (R841). -/
theorem onLine_leaveMode {s : State} (h : s.ppu.OnLine) :
    s.leaveMode.ppu.OnLine ∧ s.leaveMode.ppu.lcdc = s.ppu.lcdc ∧ s.leaveMode.ppu.lcdWasOff = s.ppu.lcdWasOff := by
  have hb := s.ppu.ly.isLt
  unfold Ppu.OnLine at h
  unfold State.leaveMode
  cases hm : s.ppu.mode with
  | oamScan | draw =>
    refine ⟨(?_ : s.ppu.ly.toNat < 144), rfl, rfl⟩
    simpa [hm] using h
  | hblank =>
    have hl : s.ppu.ly.toNat < 144 := by simpa [hm] using h
    have hs : (s.ppu.ly + 1).toNat = s.ppu.ly.toNat + 1 := by bv_omega
    dsimp only
    split
    · next hv =>
      have hv : (s.ppu.ly + 1).toNat ≥ 144 := hv
      refine ⟨(?_ : 144 ≤ (s.ppu.ly + 1).toNat ∧ (s.ppu.ly + 1).toNat < 154), rfl, rfl⟩
      omega
    · next hv => exact ⟨Nat.lt_of_not_le hv, rfl, rfl⟩
  | vblank =>
    have hl : 144 ≤ s.ppu.ly.toNat ∧ s.ppu.ly.toNat < 154 := by simpa [hm] using h
    have hs : (s.ppu.ly + 1).toNat = s.ppu.ly.toNat + 1 := by bv_omega
    dsimp only
    split
    · exact ⟨(by decide : (0 : Byte).toNat < 144), rfl, rfl⟩
    · next hv =>
      have hv : ¬(s.ppu.ly + 1).toNat ≥ 154 := hv
      refine ⟨(?_ : 144 ≤ (s.ppu.ly + 1).toNat ∧ (s.ppu.ly + 1).toNat < 154), rfl, rfl⟩
      omega

theorem onLine_ppuLoop (n : Nat) {s : State} (h : s.ppu.OnLine) :
    (s.ppuLoop n).ppu.OnLine ∧ (s.ppuLoop n).ppu.lcdc = s.ppu.lcdc ∧ (s.ppuLoop n).ppu.lcdWasOff = s.ppu.lcdWasOff := by
  induction n generalizing s with
  | zero => exact ⟨h, rfl, rfl⟩
  | succ n ih =>
    unfold State.ppuLoop
    split
    · obtain ⟨hl, hc, hw⟩ := onLine_leaveMode h
      obtain ⟨hl', hc', hw'⟩ := ih hl
      exact ⟨hl', hc'.trans hc, hw'.trans hw⟩
    · exact ⟨h, rfl, rfl⟩

/-- After the restart the PPU is on a line of its mode and LCD_WAS_OFF is cleared (R841). -/
theorem onLine_lcdRestart {s : State} (h : s.ppu.Standing) :
    s.lcdRestart.ppu.OnLine ∧ s.lcdRestart.ppu.lcdc = s.ppu.lcdc ∧ s.lcdRestart.ppu.lcdWasOff = false := by
  obtain ⟨-, line, frozen⟩ := h
  unfold State.lcdRestart
  split
  · next hw =>
    obtain ⟨-, -, hly⟩ := frozen hw
    refine ⟨?_, rfl, rfl⟩
    show s.ppu.ly.toNat < 144
    rw [hly]
    decide
  · next hw => exact ⟨line, rfl, by simpa using hw⟩

/-- An update leaves the PPU standing, and LCD_WAS_OFF as the LCD is (R841, R849). -/
theorem standing_ppuUpdate {s : State} (c : Nat) (h : s.ppu.Standing) :
    (s.ppuUpdate c).ppu.Standing ∧ (s.ppuUpdate c).ppu.LcdKnown := by
  unfold State.ppuUpdate
  split
  · next hon =>
    obtain ⟨line, lcdc, wasOff⟩ := onLine_lcdRestart h
    generalize s.lcdRestart = u at *
    have hd := ppuLoop_dots ((u.addDots c).ppu.dots / 80 + 1) (u.addDots c) (by omega)
    obtain ⟨line, lcdc', wasOff'⟩ := onLine_ppuLoop ((u.addDots c).ppu.dots / 80 + 1) (s := u.addDots c) line
    have hw := wasOff'.trans wasOff
    refine ⟨⟨hd, line, fun hx => absurd (hw.symm.trans hx) (by decide)⟩, ?_⟩
    unfold Ppu.LcdKnown Ppu.lcdOn
    unfold Ppu.lcdOn at hon
    rw [hw, lcdc'.trans lcdc, hon]
    rfl
  · next hon =>
    refine ⟨⟨(by decide : 0 < 204), (by decide : (0 : Byte).toNat < 144), fun _ => ⟨rfl, rfl, rfl⟩⟩, ?_⟩
    show true = !s.ppu.lcdOn
    simp [hon]

theorem innerInv_ppuUpdate {s : State} (c : Nat) (h : s.InnerInv) : (s.ppuUpdate c).Inv := by
  obtain ⟨hp, hl⟩ := standing_ppuUpdate c h.ppu
  refine (inv_iff _).mpr ⟨?_, hl⟩
  rw [ppuUpdate_eq]
  exact { h with ppu := hp }

theorem tacPeriod_pos_le (tac : Byte) : 0 < tacPeriod tac ∧ tacPeriod tac ≤ 256 := by
  unfold tacPeriod
  generalize tac.extractLsb' 0 2 = i
  revert i
  decide

theorem inRange_timerUpdate {s : State} (c : Nat) (h : s.timer.InRange) : (s.timerUpdate c).timer.InRange := by
  have hd : (s.timer.divAcc + c) % 256 < 256 := Nat.mod_lt _ (by decide)
  unfold State.timerUpdate
  dsimp only
  split
  · rw [timaTicks_eq]
    obtain ⟨h0, h256⟩ := tacPeriod_pos_le s.timer.tac
    exact ⟨hd, (Nat.mod_lt _ h0).trans_le h256⟩
  · exact ⟨hd, h.2⟩

theorem inv_timerUpdate {s : State} (c : Nat) (h : s.Inv) : (s.timerUpdate c).Inv := by
  obtain ⟨hi, hl⟩ := (inv_iff s).mp h
  have ht := inRange_timerUpdate c hi.timer
  rw [timerUpdate_eq]
  exact (inv_iff _).mpr ⟨{ hi with timer := ht }, hl⟩

/-! ### The DMA -/

/-- The DMA with `n` turns of its loop before it: after them it is settled (R861). -/
def Dma.Due (d : Dma) (n : Nat) : Prop :=
  d.active = true ∧ d.index + n ≤ 160 ∧ (d.acc = n ∨ d.index + n = 160)

theorem Dma.Settled.due {d : Dma} (h : d.Settled) (ha : d.active = true) (c : Nat) :
    Dma.Due { d with acc := d.acc + c } (min ((d.acc + c) / Config.dmaCyclesPerByte) (Config.oamBytes - d.index)) := by
  obtain ⟨-, active, acc⟩ := h
  have hi : d.index < 160 := active.mp ha
  unfold Dma.Due Config.dmaCyclesPerByte Config.oamBytes
  rw [Nat.div_one]
  exact ⟨ha, by dsimp only; omega, by dsimp only; omega⟩

theorem Dma.Due.turn {d : Dma} {n : Nat} (h : d.Due (n + 1)) :
    Dma.Due { d with acc := d.acc - Config.dmaCyclesPerByte, index := d.index + 1 } n := by
  obtain ⟨active, index, acc⟩ := h
  unfold Config.dmaCyclesPerByte
  exact ⟨active, by dsimp only; omega, by dsimp only; omega⟩

theorem Dma.Due.index_lt {d : Dma} {n : Nat} (h : d.Due (n + 1)) : d.index < 160 := by
  obtain ⟨-, index, -⟩ := h
  omega

theorem Dma.Due.settled_of_ne {d : Dma} (h : d.Due 0) (hi : d.index ≠ 160) : d.Settled := by
  obtain ⟨active, index, acc⟩ := h
  exact ⟨index, iff_of_true active (by omega), by omega⟩

theorem Dma.settled_end {d : Dma} (hi : d.index = 160) : Dma.Settled { d with active := false, acc := 0 } := by
  simp [Dma.Settled, hi]

/-- The bytes of OAM are cells of every cartridge's machine. -/
theorem physical_oam (c : Cart) {n : Nat} (h : n < 160) : c.physical (0xFE00 + n) :=
  .inr (.inr (.inl ⟨by omega, by omega⟩))

theorem dmaBytes_ensures (n : Nat) (s : State) :
    Ensures (State.dmaBytes n s) fun t => s.dma.Due n → s.cart.Holds s.mem → t.dma.Settled ∧ s.cart.Holds t.mem := by
  induction n generalizing s with
  | zero =>
    intro hd hm
    dsimp only
    split
    · next hi => exact ⟨Dma.settled_end hi, hm⟩
    · next hi => exact ⟨hd.settled_of_ne hi, hm⟩
  | succ n ih =>
    unfold State.dmaBytes State.dmaByteThen
    dsimp only
    split
    · exact (ih _).mono fun t ht hd hm => ht hd.turn (holds_write _ hm (physical_oam _ hd.index_lt))
    · exact ensures_raise _ _ _

theorem dmaUpdate_ensures (s : State) (c : Nat) : Ensures (s.dmaUpdate c) fun t => s.Inv → t.Inv := by
  have settles : Ensures (s.dmaUpdate c) fun t => s.dma.Settled → s.cart.Holds s.mem → t.dma.Settled ∧ s.cart.Holds t.mem :=
    ensures_ite (fun ha => (dmaBytes_ensures _ _).mono fun _ ht hd hm => ht (hd.due ha c) hm) fun _ hd hm => ⟨hd, hm⟩
  refine settles.of_next fun t ho ht h => ?_
  obtain ⟨hi, hl⟩ := (inv_iff s).mp h
  obtain ⟨hd, hm⟩ := ht hi.dma hi.mem
  rw [(dmaUpdate_next ho).1]
  exact (inv_iff _).mpr ⟨{ hi with mem := hm, dma := hd }, hl⟩

/-- The three updates restore the clause of the LCD and keep the others (R880). -/
theorem unitsUpdate_ensures (s : State) (c : Nat) : Ensures (s.unitsUpdate c) fun t => s.InnerInv → t.Inv :=
  (dmaUpdate_ensures _ c).mono fun _ ht h => ht (inv_timerUpdate c (innerInv_ppuUpdate c h))

end Sys2Proof.Machine
end

section
/-! The invariant through an iteration and a step, what a step that raises ends in (spec/60_exceptions.md R800, R801, R804, R820, R880), and reset
(spec/10_state.md R160). -/

namespace Sys2Proof.Machine

/-- Ending a halt and reporting cycles keep the invariant. -/
theorem inv_setHalted {s : State} (halted : Bool) (n : Nat) (h : s.Inv) : State.Inv { s with halted := halted, cycles := n } := { h with }

/-- The interrupt handling suspends the clause of the LCD only where it takes cycles: the pushed bytes may fall on LCDC (R820). -/
theorem handleInterrupts_ensures (s : State) :
    Ensures s.handleInterrupts fun t => s.Inv → t.InnerInv ∧ t.cycles ≤ 20 ∧ (t.cycles = 0 → t.Inv) := by
  have idle (halted : Bool) (h : s.Inv) : State.InnerInv { s with halted := halted, cycles := 0 } ∧ 0 ≤ 20 ∧
      (0 = 0 → State.Inv { s with halted := halted, cycles := 0 }) :=
    ⟨((inv_iff _).mp (inv_setHalted halted 0 h)).1, by decide, fun _ => inv_setHalted halted 0 h⟩
  unfold State.handleInterrupts
  split
  · exact idle s.halted
  · refine ensures_ite (fun _ => ensures_push16Then fun t ht h => ?_) fun _ => idle false
    have hi := ht.innerInv ((inv_iff _).mp (inv_setHalted false s.cycles h)).1
    have hn : 0 < (if s.halted then 20 else 16) ∧ (if s.halted then 20 else 16) ≤ 20 := by split <;> decide
    exact ⟨{ hi with }, hn.2, fun h0 => absurd h0 hn.1.ne'⟩

theorem inv_closeIteration {s : State} {n : Nat} (h : s.Inv) (hn : n ≤ Config.cyclesPerFrame) : (s.closeIteration n).Inv := by
  have hf := h.frameAcc
  refine { h with frameAcc := ?_ }
  unfold State.closeIteration
  dsimp only
  split <;> omega

theorem afterStep_ensures (s : State) : Ensures s.afterStep fun t => s.InnerInv → s.cycles ≤ 24 → t.Inv := by
  refine ensures_andThen (unitsUpdate_ensures s s.cycles) fun s2 h2 => ensures_andThen (handleInterrupts_ensures s2) fun s3 h3 => ?_
  refine ensures_ite (fun _ => ensures_andThen (unitsUpdate_ensures s3 s3.cycles) fun s4 h4 h hc => ?_) fun hz h hc => ?_
  · obtain ⟨hi, hn, -⟩ := h3 (h2 h)
    exact inv_closeIteration (h4 hi) (by unfold Config.cyclesPerFrame; omega)
  · obtain ⟨-, -, hi⟩ := h3 (h2 h)
    exact inv_closeIteration (hi (by omega)) (by unfold Config.cyclesPerFrame; omega)

theorem iteration_ensures (s : State) : Ensures s.iteration fun t => s.InnerInv → t.Inv :=
  ensures_andThen (cpuStep_ensures s) fun u hu => (afterStep_ensures u).mono fun _ ht h => ht (hu h).1 (hu h).2

theorem innerInv_applyInput {s : State} (h : s.InnerInv) : s.applyInput.InnerInv := by
  rw [applyInput_eq]
  exact { h with }

/-- A step of a state that holds a record answers it again (R110, R804). -/
theorem step_of_fault {s : State} {r : FaultRecord} (h : s.fault = some r) : step s = .fault (Fault.of r s) := by
  simp [step, State.advance, h]

/-- A step keeps the invariant, or raises with the record kept. -/
theorem step_ensures (s : State) : Ensures (step s) fun t => s.Inv → t.Inv := by
  cases hf : s.fault with
  | none =>
    rw [step_of_running hf]
    exact (iteration_ensures s.applyInput).mono fun t ht h => ht (innerInv_applyInput ((inv_iff s).mp h).1)
  | some r =>
    rw [step_of_fault hf]
    exact ⟨r, s, rfl, hf⟩

/-- Settles O59, by what each part of an iteration ensures: the CPU step keeps all clauses but that of the LCD, and the PPU's update, which follows
every write of the CPU within the iteration, restores it. -/
theorem stepKeepsTheInvariant : Obligations.StepKeepsTheInvariant :=
  fun s _ h hs => (step_ensures s).next hs h

/-- Settles O8: every fault of an iteration is raised with its record kept, and the step of a state with a record answers it. -/
theorem faultIsFinal : Obligations.FaultIsFinal :=
  ⟨fun s _ h => (step_ensures s).fault h, fun _ _ => step_of_fault⟩

/-! ### Reset -/

theorem holds_nil (c : Cart) : c.Holds [] := ⟨Memory.wf_nil, by simp⟩

/-- Settles O58: no cell is listed, no transfer is active, and the LCD is on at line 0. -/
theorem resetSatisfiesTheInvariant : Obligations.ResetSatisfiesTheInvariant := by
  refine (inv_iff _).mpr ⟨⟨rfl, by decide, by decide, holds_nil _, ⟨by decide, by decide⟩, ?_, ?_, by decide⟩, rfl⟩
  · exact ⟨by decide, (by decide : (0 : Byte).toNat < 144), fun h => absurd h (by decide)⟩
  · unfold Dma.Settled
    decide

/-- Settles O57: the fields of State.powerOn are the table's values. -/
theorem resetValues : Obligations.ResetValues := by
  intro c m p input s
  have hstat : s.ppu.stat = 0x06 := (by decide : (0#5 ++ bit true ++ PpuMode.oamScan.code : Byte) = 0x06)
  have hread : s.joypad.read = 0xCF := (by decide : Joypad.read { sel := 0, buttons := Buttons.released } = 0xCF)
  have hfb (j : Fin 144) (k : Fin 160) : (s.ppu.fb[j])[k] = 0 := by
    show (blankFrame[j])[k] = 0
    simp [blankFrame]
  exact ⟨rfl, ⟨rfl, rfl, rfl, rfl, rfl, rfl, rfl⟩, rfl,
    ⟨rfl, hstat, rfl, rfl, rfl, rfl, rfl, rfl, rfl, rfl, rfl, rfl, rfl, rfl, rfl, rfl, hfb⟩,
    rfl, rfl, hread, rfl, rfl, rfl, rfl, rfl, rfl⟩

end Sys2Proof.Machine
end

section
/-! The bus by address (spec/20_memory.md R200 to R203, R230, R231): the one device of an address, the addresses without one, and the CPU's gate as
the rule's three tests. -/

namespace Sys2Proof.Machine

/-! ### The device of an address -/

/-- No two devices accept one address (R202). -/
theorem accepts_unique {a : Nat} {d e : Device} (hd : d.accepts a = true) (he : e.accepts a = true) : d = e := by
  rw [accepts_iff] at hd he
  cases d <;> cases e <;> simp only [reduceCtorEq] <;> omega

theorem mem_devices (d : Device) : d ∈ devices := by cases d <;> decide

theorem deviceAt_eq_none_iff (a : Nat) : deviceAt a = none ↔ ∀ d : Device, d.accepts a = false := by
  simp [deviceAt, mem_devices]

/-- The device registered first for an address is the only one that accepts it (R200, R202). -/
theorem deviceAt_eq_some_iff (a : Nat) (d : Device) : deviceAt a = some d ↔ d.accepts a = true := by
  refine ⟨accepts_of_deviceAt, fun hd => ?_⟩
  cases h : deviceAt a with
  | none => simp [(deviceAt_eq_none_iff a).mp h d] at hd
  | some e => rw [accepts_unique (accepts_of_deviceAt h) hd]

/-- The addresses no device accepts (R203). -/
theorem deviceAt_eq_none_iff_unmapped (a : Word) : deviceAt a.toNat = none ↔
    (a = 0xFF03 ∨ (0xFF08 ≤ a.toNat ∧ a.toNat ≤ 0xFF0E) ∨ (0xFF10 ≤ a.toNat ∧ a.toNat ≤ 0xFF3F) ∨
      (0xFF4C ≤ a.toNat ∧ a.toNat ≤ 0xFF7F)) := by
  have ha := a.isLt
  have h3 : a = 0xFF03 ↔ a.toNat = 0xFF03 := by rw [← BitVec.toNat_inj]; rfl
  rw [deviceAt_eq_none_iff, h3]
  simp only [← Bool.not_eq_true, accepts_iff]
  constructor
  · intro h
    have hcart := h .cartridge
    have hppu := h .ppu
    have hram := h .ram
    have htimer := h .timer
    have hint := h .interrupts
    have hjoy := h .joypad
    have hser := h .serial
    dsimp only at hcart hppu hram htimer hint hjoy hser
    omega
  · intro h d
    cases d <;> dsimp only <;> omega

/-! ### What the bus does at an address -/

theorem busRead_of_accepts {d : Device} {a : Word} (h : d.accepts a.toNat = true) (s : State) :
    s.busRead a = some (s.deviceRead d a.toNat) := by
  simp [State.busRead, (deviceAt_eq_some_iff _ _).mpr h]

theorem busWrite_of_accepts {d : Device} {a : Word} (h : d.accepts a.toNat = true) (s : State) (v : Byte) :
    s.busWrite a v = some (s.deviceWrite d a.toNat v) := by
  simp [State.busWrite, (deviceAt_eq_some_iff _ _).mpr h]

/-- Under OpenBus an unmapped address reads 0xFF and a write changes nothing (R203). -/
theorem bus_unmapped_openBus {s : State} {a : Word} (h : deviceAt a.toNat = none) (hp : s.policy = .openBus) (v : Byte) :
    s.busRead a = some 0xFF ∧ s.busWrite a v = some s := by
  simp [State.busRead, State.busWrite, h, hp]

/-- Under Fault neither is answered (R203). -/
theorem bus_unmapped_fault {s : State} {a : Word} (h : deviceAt a.toNat = none) (hp : s.policy = .fault) (v : Byte) :
    s.busRead a = none ∧ s.busWrite a v = none := by
  simp [State.busRead, State.busWrite, h, hp]

theorem writeThen_of_not_answers {s : State} {a : Word} (v : Byte) (k : State → Result) (h : ¬s.Answers a) :
    s.writeThen a v k = s.busFault a :=
  writeThen_none k (memWrite_of_not_answers v h)

/-- Settles O40, by the ranges of the devices as propositions. -/
theorem busRoutesEveryAddress : Obligations.BusRoutesEveryAddress := by
  refine ⟨fun _ _ _ => accepts_unique, deviceAt_eq_some_iff, fun a => ⟨deviceAt_eq_none_iff_unmapped a, fun h s v => ?_⟩⟩
  refine ⟨fun hp => bus_unmapped_openBus h hp v, fun hp => ?_⟩
  obtain ⟨hr, hw⟩ := bus_unmapped_fault h hp v
  refine ⟨hr, hw, fun hb k k' => ?_⟩
  have ha : ¬s.Answers a := by simp [State.Answers, hp, hb, h]
  exact ⟨readThen_of_not_answers k ha, writeThen_of_not_answers v k' ha⟩

/-! ### The CPU's gate -/

theorem inHram_iff (a : Word) : inHram a = true ↔ 0xFF80 ≤ a.toNat ∧ a.toNat ≤ 0xFFFE := by
  simp [inHram]

/-- The three tests of R230. -/
theorem blocked_iff (s : State) (a : Word) : s.blocked a = true ↔
    (s.dma.active = true ∧ ¬(0xFF80 ≤ a.toNat ∧ a.toNat ≤ 0xFFFE)) ∨
    ((0x8000 ≤ a.toNat ∧ a.toNat ≤ 0x9FFF) ∧ s.ppu.mode = .draw) ∨
    ((0xFE00 ≤ a.toNat ∧ a.toNat ≤ 0xFE9F) ∧ (s.ppu.mode = .oamScan ∨ s.ppu.mode = .draw)) := by
  rw [← inHram_iff]
  simp [State.blocked, or_assoc]

theorem memRead_of_blocked {s : State} {a : Word} (h : s.blocked a = true) : s.memRead a = some 0xFF := if_pos h

theorem memWrite_of_blocked {s : State} {a : Word} (h : s.blocked a = true) (v : Byte) : s.memWrite a v = some s := if_pos h

theorem memRead_of_not_blocked {s : State} {a : Word} (h : ¬s.blocked a = true) : s.memRead a = s.busRead a := if_neg h

theorem memWrite_of_not_blocked {s : State} {a : Word} (h : ¬s.blocked a = true) (v : Byte) : s.memWrite a v = s.busWrite a v := if_neg h

/-- Settles O41: the gate is the disjunction of the rule's tests. -/
theorem cpuAccessesAreGated : Obligations.CpuAccessesAreGated := by
  intro s a v dma vram oam
  have hb : s.blocked a = true ↔ dma ∨ vram ∨ oam := blocked_iff s a
  rw [← hb]
  exact ⟨fun h => ⟨memRead_of_blocked h, memWrite_of_blocked h v⟩, fun h => ⟨memRead_of_not_blocked h, memWrite_of_not_blocked h v⟩⟩

end Sys2Proof.Machine
end

section
/-! Memory behind the bus (spec/20_memory.md R204 to R208, R255, R264): the accesses that go to a cell, the cell of every address, and with them what
a write of RAM leaves and what the fixed arrays read. -/

namespace Sys2Proof.Machine

/-! ### Accesses to cells -/

/-- Outside the registers the device of an address reads the cell behind it. -/
theorem busRead_eq_readCell {a : Word} (ha : a.toNat < 0xFF00 ∨ 0xFF80 ≤ a.toNat ∧ a.toNat < 0xFFFF) (s : State) :
    s.busRead a = some (s.readCell a.toNat) := by
  by_cases hc : a.toNat ≤ 0x7FFF ∨ 0xA000 ≤ a.toNat ∧ a.toNat ≤ 0xBFFF
  · exact busRead_of_accepts ((accepts_iff .cartridge _).mpr hc) s
  · by_cases hp : 0x8000 ≤ a.toNat ∧ a.toNat ≤ 0x9FFF ∨ 0xFE00 ≤ a.toNat ∧ a.toNat ≤ 0xFE9F
    · rw [busRead_of_accepts ((accepts_iff .ppu _).mpr (.inl hp)) s, State.deviceRead, if_pos (by omega)]
    · exact busRead_of_accepts ((accepts_iff .ram _).mpr (by dsimp only; omega)) s

/-- Outside the registers and the ROM windows the device of an address writes the cell behind it. -/
theorem busWrite_eq_writeCell {a : Word} (ha : ramAddr a ∨ 0xFEA0 ≤ a.toNat ∧ a.toNat ≤ 0xFEFF) (s : State) (v : Byte) :
    s.busWrite a v = some (s.writeCell a.toNat v) := by
  unfold ramAddr at ha
  by_cases hc : 0xA000 ≤ a.toNat ∧ a.toNat ≤ 0xBFFF
  · rw [busWrite_of_accepts ((accepts_iff .cartridge _).mpr (.inr hc)) s, State.deviceWrite, if_neg (by omega)]
  · by_cases hp : 0x8000 ≤ a.toNat ∧ a.toNat ≤ 0x9FFF ∨ 0xFE00 ≤ a.toNat ∧ a.toNat ≤ 0xFE9F
    · rw [busWrite_of_accepts ((accepts_iff .ppu _).mpr (.inl hp)) s, State.deviceWrite, if_pos (by omega)]
    · exact busWrite_of_accepts ((accepts_iff .ram _).mpr (by dsimp only; omega)) s v

theorem readCell_of_cellOf {s : State} {a k : Nat} (h : s.cellOf a = some k) : s.readCell a = s.mem.read k := by
  simp [State.readCell, h]

theorem readCell_of_no_cell {s : State} {a : Nat} (h : s.cellOf a = none) : s.readCell a = 0xFF := by
  simp [State.readCell, h]

theorem writeCell_of_cellOf {s : State} {a k : Nat} (h : s.cellOf a = some k) (v : Byte) :
    s.writeCell a v = { s with mem := s.mem.write k v } := by
  simp [State.writeCell, h]

theorem writeCell_of_no_cell {s : State} {a : Nat} (h : s.cellOf a = none) (v : Byte) : s.writeCell a v = s := by
  simp [State.writeCell, h]

/-- An address with a cell is no register's. -/
theorem not_register_of_cellOf {s : State} {a k : Nat} (h : s.cellOf a = some k) : a < 0xFF00 ∨ 0xFF80 ≤ a ∧ a < 0xFFFF := by
  by_contra ha
  unfold State.cellOf at h
  iterate 7 rw [if_neg (by omega)] at h
  cases h

/-- Every address of a cell reads it, ROM, the cartridge's RAM and the echo included. -/
theorem busRead_of_cellOf {s : State} {a : Word} {k : Nat} (h : s.cellOf a.toNat = some k) : s.busRead a = some (s.mem.read k) := by
  rw [busRead_eq_readCell (not_register_of_cellOf h), readCell_of_cellOf h]

/-! ### The cell of an address -/

/-- VRAM, WRAM, OAM and HRAM have their bus addresses as cells (R204, R207, R208). -/
theorem cellOf_fixed {a : Nat} (h : (0xC000 ≤ a ∧ a ≤ 0xDFFF) ∨ (0x8000 ≤ a ∧ a ≤ 0x9FFF) ∨ (0xFE00 ≤ a ∧ a ≤ 0xFE9F) ∨
    (0xFF80 ≤ a ∧ a ≤ 0xFFFE)) (s : State) : s.cellOf a = some a := by
  grind [State.cellOf]

theorem cellOf_echo {a : Nat} (h : 0xE000 ≤ a ∧ a ≤ 0xFDFF) (s : State) : s.cellOf a = some (a - 0x2000) := by
  grind [State.cellOf]

theorem cellOf_prohibited {a : Nat} (h : 0xFEA0 ≤ a ∧ a ≤ 0xFEFF) (s : State) : s.cellOf a = none := by
  grind [State.cellOf]

theorem cellOf_rom {a : Nat} (h : a < 0x8000) (s : State) : s.cellOf a = some (romBase + s.cart.romOffset a) := if_pos h

theorem cellOf_cram {a : Nat} (h1 : 0xA000 ≤ a) (h2 : a < 0xC000) (s : State) :
    s.cellOf a = (s.cart.cramOffset a).map (cramBase + ·) := by
  unfold State.cellOf
  rw [if_neg (by omega), if_neg (by omega), if_pos h2]

/-! ### Writes of RAM -/

/-- Settles O42, by the frame every write has and, in RAM, by the cell it stores in. -/
theorem writeChangesOneByte : Obligations.WriteChangesOneByte := by
  intro s t a v h
  refine ⟨memWrite_frame h, fun hb => ?_, fun hb ha => ?_⟩
  · rw [memWrite_of_blocked hb] at h
    exact (Option.some.inj h).symm
  · rw [memWrite_of_not_blocked (by simp [hb]), busWrite_eq_writeCell (.inl ha)] at h
    obtain rfl := Option.some.inj h
    refine ⟨writeCell_eq s a.toNat v, fun k hk => ?_⟩
    have hread : (s.writeCell a.toNat v).mem.read k = v := by rw [writeCell_read, if_pos hk]
    refine ⟨hread, fun x hx => ?_⟩
    rw [← writeCell_cellOf s a.toNat v] at hx
    rw [busRead_of_cellOf hx, hread]

/-- Settles O43, by the cell of every address. -/
theorem fixedArraysOfTheMap : Obligations.FixedArraysOfTheMap := by
  intro s a v
  refine ⟨fun h => ?_, fun h => ?_, fun h => ?_⟩
  · have hk := cellOf_fixed h s
    have ha : ramAddr a := by unfold ramAddr; omega
    exact ⟨busRead_of_cellOf hk, by rw [busWrite_eq_writeCell (.inl ha), writeCell_of_cellOf hk]⟩
  · have hw : (a - 0x2000).toNat = a.toNat - 0x2000 := by bv_omega
    have hk := cellOf_echo h s
    have hk' : s.cellOf (a - 0x2000).toNat = some (a.toNat - 0x2000) := by rw [hw, cellOf_fixed (by omega)]
    have ha : ramAddr a := by unfold ramAddr; omega
    have ha' : ramAddr (a - 0x2000) := by unfold ramAddr; omega
    rw [busRead_of_cellOf hk, busRead_of_cellOf hk', busWrite_eq_writeCell (.inl ha), busWrite_eq_writeCell (.inl ha'),
      writeCell_of_cellOf hk, writeCell_of_cellOf hk']
    exact ⟨rfl, rfl⟩
  · have hk := cellOf_prohibited h s
    rw [busRead_eq_readCell (.inl (by omega)), busWrite_eq_writeCell (.inr h), readCell_of_no_cell hk, writeCell_of_no_cell hk]
    exact ⟨rfl, rfl⟩

end Sys2Proof.Machine
end

section
/-! The registers at the bus (spec/20_memory.md R209 to R213): the frame of a write of a register, what the evaluation of the STAT line keeps, and the
statement about every register. -/

namespace Sys2Proof.Machine

theorem writeFrame_refl (s : State) (a : Word) : WriteFrame s s a where
  regs := rfl
  control := ⟨rfl, rfl, rfl, rfl, rfl⟩
  outside := ⟨rfl, rfl, rfl, rfl, rfl, rfl, rfl, rfl⟩
  cells _ _ := rfl
  cart := ⟨fun _ => rfl, rfl, rfl, rfl⟩
  timer _ := rfl
  ppu _ := rfl
  dma _ := rfl
  joypad _ := rfl
  serial _ _ := rfl
  ie _ := rfl
  iflag _ := .inl rfl
  reads _ _ _ := rfl

/-- A write past the CPU's gate has the frame of a write as well. -/
theorem busWrite_frame {s t : State} {a : Word} {v : Byte} (h : s.busWrite a v = some t) : WriteFrame s t a := by
  cases hd : deviceAt a.toNat with
  | some d =>
    have ha := accepts_of_deviceAt hd
    rw [busWrite_of_accepts ha] at h
    obtain rfl := Option.some.inj h
    exact deviceWrite_frame s d a v ha
  | none =>
    simp only [State.busWrite, hd] at h
    split at h
    · obtain rfl := Option.some.inj h
      exact writeFrame_refl s a
    · cases h

/-! ### The STAT line -/

/-- A write of STAT or LYC evaluates the STAT line while the LCD is on, and else does not (R846). -/
theorem busWrite_evalStatIfOn {s u : State} {a : Word} {v : Byte} (h : s.busWrite a v = some u.evalStatIfOn)
    (hl : u.ppu.lcdc = s.ppu.lcdc) :
    (s.ppu.lcdc.getLsbD 7 = true → s.busWrite a v = some u.evalStat) ∧
      (s.ppu.lcdc.getLsbD 7 = false → s.busWrite a v = some u) := by
  rw [h, ← hl]
  unfold State.evalStatIfOn Ppu.lcdOn
  exact ⟨fun hon => by rw [if_pos hon], fun hoff => by rw [hoff]; rfl⟩

@[simp] theorem lyc_evalStatIfOn (s : State) : s.evalStatIfOn.ppu.lyc = s.ppu.lyc := by
  unfold State.evalStatIfOn
  split <;> rfl

@[simp] theorem statHi_evalStatIfOn (s : State) : s.evalStatIfOn.ppu.statHi = s.ppu.statHi := by
  unfold State.evalStatIfOn
  split <;> rfl

theorem busWrite_stat (s : State) (v : Byte) :
    s.busWrite 0xFF41 v = some ({ s with ppu := { s.ppu with statHi := v.extractLsb' 3 5 } } : State).evalStatIfOn := rfl

theorem busWrite_lyc (s : State) (v : Byte) :
    s.busWrite 0xFF45 v = some ({ s with ppu := { s.ppu with lyc := v } } : State).evalStatIfOn := rfl

theorem busRead_stat (s : State) :
    s.busRead 0xFF41 = some (s.ppu.statHi ++ BitVec.ofBool s.ppu.coinc ++ s.ppu.mode.code) := rfl

theorem busRead_lyc (s : State) : s.busRead 0xFF45 = some s.ppu.lyc := rfl

/-! ### P1 and DMA -/

/-- The high nibble of P1 is two ones and the stored bits (R870). -/
theorem joypad_read_high (j : Joypad) : j.read.extractLsb' 4 4 = 0b11#2 ++ j.sel := by
  have h (sel : BitVec 2) (lo : BitVec 4) : ((0b11#2 ++ sel ++ lo : Byte)).extractLsb' 4 4 = 0b11#2 ++ sel := by decide +revert
  exact h j.sel _

/-- The source of a transfer is the written byte times 256 (R860). -/
theorem dma_begin_eq (v : Byte) :
    Dma.begin v = { reg := v, active := true, src := BitVec.ofNat 16 (v.toNat * 256), index := 0, acc := 0 } := by
  have h : pair v 0 = BitVec.ofNat 16 (v.toNat * 256) := by
    apply BitVec.eq_of_toNat_eq
    rw [pair_toNat, BitVec.toNat_ofNat]
    have := v.isLt
    simp
    omega
  rw [Dma.begin, h]

/-! ### Reading back -/

/-- The registers that a read gives back as they were written. -/
def storedRegisters : List Word :=
  [0xFF01, 0xFF02, 0xFF05, 0xFF06, 0xFF07, 0xFF0F, 0xFF40, 0xFF42, 0xFF43, 0xFF45, 0xFF46, 0xFF47, 0xFF48, 0xFF49, 0xFF4A, 0xFF4B, 0xFFFF]

theorem storedRegisters_read_back (s : State) (v : Byte) :
    ∀ a ∈ storedRegisters, ∃ t, s.busWrite a v = some t ∧ t.busRead a = some v := by
  have lyc : ∃ t, s.busWrite 0xFF45 v = some t ∧ t.busRead 0xFF45 = some v :=
    ⟨_, busWrite_lyc s v, by rw [busRead_lyc, lyc_evalStatIfOn]⟩
  simp only [storedRegisters, List.forall_mem_cons]
  exact ⟨⟨_, rfl, rfl⟩, ⟨_, rfl, rfl⟩, ⟨_, rfl, rfl⟩, ⟨_, rfl, rfl⟩, ⟨_, rfl, rfl⟩, ⟨_, rfl, rfl⟩, ⟨_, rfl, rfl⟩,
    ⟨_, rfl, rfl⟩, ⟨_, rfl, rfl⟩, lyc, ⟨_, rfl, rfl⟩, ⟨_, rfl, rfl⟩, ⟨_, rfl, rfl⟩, ⟨_, rfl, rfl⟩, ⟨_, rfl, rfl⟩,
    ⟨_, rfl, rfl⟩, ⟨_, rfl, rfl⟩, by simp⟩

/-- Settles O44: by the port of each register, with the evaluation of the STAT line for STAT and LYC. -/
theorem registersAtTheBus : Obligations.RegistersAtTheBus := by
  intro s v
  refine ⟨?_, ?_, ?_, fun a ha => ?_, ?_, ?_⟩
  · simp only [List.forall_mem_cons]
    exact ⟨rfl, rfl, rfl, rfl, rfl, rfl, rfl, rfl, rfl, rfl, rfl, rfl, rfl, rfl, rfl, rfl, rfl, rfl, rfl, rfl, rfl, by simp⟩
  · rw [← dma_begin_eq v]
    simp only [List.forall_mem_cons]
    exact ⟨rfl, rfl, rfl, rfl, rfl, rfl, rfl, rfl, rfl, rfl, rfl, rfl, rfl, rfl, rfl, rfl, rfl, rfl, rfl, by simp⟩
  · simp only [List.forall_mem_cons]
    exact ⟨busWrite_evalStatIfOn (busWrite_stat s v) rfl, busWrite_evalStatIfOn (busWrite_lyc s v) rfl, by simp⟩
  · obtain ⟨t, ht, hr⟩ := storedRegisters_read_back s v a ha
    exact ⟨t, ht, hr, busWrite_frame ht⟩
  · exact ⟨_, busWrite_stat s v, busWrite_frame (busWrite_stat s v), by rw [busRead_stat, statHi_evalStatIfOn]⟩
  · exact ⟨_, _, rfl, rfl, joypad_read_high _⟩

end Sys2Proof.Machine
end

section
/-! The cartridge at the bus (spec/20_memory.md R255, R256, R260 to R265): the accesses to its windows, the offsets they reach, and the bank
registers as numbers. -/

namespace Sys2Proof.Machine

/-! ### The windows -/

theorem busRead_rom {a : Word} (h : a.toNat < 0x8000) (s : State) :
    s.busRead a = some (s.mem.read (romBase + s.cart.romOffset a.toNat)) :=
  busRead_of_cellOf (cellOf_rom h s)

theorem busWrite_rom {a : Word} (h : a.toNat < 0x8000) (s : State) (v : Byte) :
    s.busWrite a v = some { s with cart := s.cart.writeRegister a.toNat v } := by
  rw [busWrite_of_accepts ((accepts_iff .cartridge _).mpr (.inl (by omega))), State.deviceWrite, if_pos h]

/-- An access to the RAM window reaches the byte at the controller's offset. -/
theorem bus_cram {a : Word} (h1 : 0xA000 ≤ a.toNat) (h2 : a.toNat < 0xC000) {s : State} {k : Nat}
    (hk : s.cart.cramOffset a.toNat = some k) (v : Byte) :
    s.busRead a = some (s.mem.read (cramBase + k)) ∧ s.busWrite a v = some { s with mem := s.mem.write (cramBase + k) v } := by
  have hc : s.cellOf a.toNat = some (cramBase + k) := by rw [cellOf_cram h1 h2, hk]; rfl
  have ha : ramAddr a := .inl ⟨by omega, by omega⟩
  exact ⟨busRead_of_cellOf hc, by rw [busWrite_eq_writeCell (.inl ha), writeCell_of_cellOf hc]⟩

/-- Where the controller gives no offset the RAM window reads 0xFF and keeps nothing (R256, R264). -/
theorem bus_cram_absent {a : Word} (h1 : 0xA000 ≤ a.toNat) (h2 : a.toNat < 0xC000) {s : State}
    (hk : s.cart.cramOffset a.toNat = none) (v : Byte) : s.busRead a = some 0xFF ∧ s.busWrite a v = some s := by
  have hc : s.cellOf a.toNat = none := by rw [cellOf_cram h1 h2, hk]; rfl
  have ha : ramAddr a := .inl ⟨by omega, by omega⟩
  rw [busRead_eq_readCell (.inl (by omega)), busWrite_eq_writeCell (.inl ha), readCell_of_no_cell hc, writeCell_of_no_cell hc]
  exact ⟨rfl, rfl⟩

/-! ### No-MBC -/

section
variable {c : Cart} (hk : c.kind = .noMbc)
include hk

theorem romOffset_noMbc (a : Nat) : c.romOffset a = a := by simp [Cart.romOffset, hk]

theorem writeRegister_noMbc (a : Nat) (v : Byte) : c.writeRegister a v = c := by simp [Cart.writeRegister, hk]

theorem cramOffset_noMbc (a : Nat) : c.cramOffset a = if a - 0xA000 < c.ramSize then some (a - 0xA000) else none := by
  simp [Cart.cramOffset, hk]

end

/-! ### MBC1 -/

/-- With a power of two of banks the mask is a remainder (R261). -/
theorem maskBank_eq_mod {c : Cart} {n : Nat} (h : c.romSize = 0x8000 * 2 ^ n) (bank : Nat) : c.maskBank bank = bank % 2 ^ (n + 1) := by
  have hb : c.romBanks = 2 ^ (n + 1) := by
    rw [Cart.romBanks, h, Config.romBankSize, Nat.pow_succ]
    omega
  rw [Cart.maskBank, hb, Nat.and_two_pow_sub_one_eq_mod]

theorem bank2High_eq (c : Cart) : c.bank2High = 32 * c.bank2.toNat := by
  rw [Cart.bank2High, Nat.shiftLeft_eq]
  omega

/-- BANK2 and BANK1 together, as the number of seven bits they are (R263). -/
theorem bank2High_or_bank1 (c : Cart) : c.bank2High ||| c.bank1.toNat = 32 * c.bank2.toNat + c.bank1.toNat := by
  rw [Cart.bank2High, ← Nat.shiftLeft_add_eq_or_of_lt c.bank1.isLt, Nat.shiftLeft_eq]
  omega

/-- The zero test of a write of BANK1, on the masked value (R260). -/
theorem setWidth_five_eq_zero_iff (v : Byte) : (v.setWidth 5 : BitVec 5) = 0 ↔ v.toNat % 32 = 0 := by
  rw [← BitVec.toNat_inj, BitVec.toNat_setWidth]
  rfl

section
variable {c : Cart} (hk : c.kind = .mbc1)
include hk

theorem writeRegister_ramg {a : Nat} (h : a < 0x2000) (v : Byte) : c.writeRegister a v = { c with ramg := BitVec.ofNat 4 v.toNat } := by
  simp [Cart.writeRegister, hk, h]

theorem writeRegister_bank1 {a : Nat} (h1 : 0x2000 ≤ a) (h2 : a < 0x4000) (v : Byte) :
    c.writeRegister a v = { c with bank1 := if v.toNat % 32 = 0 then 1 else BitVec.ofNat 5 v.toNat } := by
  simp only [← setWidth_five_eq_zero_iff, BitVec.ofNat_toNat]
  simp [Cart.writeRegister, hk, h1.not_gt, h2]

theorem writeRegister_bank2 {a : Nat} (h1 : 0x4000 ≤ a) (h2 : a < 0x6000) (v : Byte) :
    c.writeRegister a v = { c with bank2 := BitVec.ofNat 2 v.toNat } := by
  simp [Cart.writeRegister, hk, h1.not_gt, h2, show ¬a < 0x2000 by omega]

theorem writeRegister_mode {a : Nat} (h : 0x6000 ≤ a) (v : Byte) : c.writeRegister a v = { c with mode := BitVec.ofNat 1 v.toNat } := by
  simp [Cart.writeRegister, hk, h.not_gt, show ¬a < 0x2000 by omega, show ¬a < 0x4000 by omega]

/-- The lower ROM window: bank 0, in mode 1 the bank of BANK2 (R262). -/
theorem romOffset_low {n : Nat} (hs : c.romSize = 0x8000 * 2 ^ n) {a : Nat} (h : a < 0x4000) :
    c.romOffset a = (if c.mode = 0 then 0 else 32 * c.bank2.toNat) % 2 ^ (n + 1) * 0x4000 + a := by
  simp only [Cart.romOffset, hk, if_pos h, maskBank_eq_mod hs, bank2High_eq, Config.romBankSize]
  split <;> simp

/-- The upper ROM window: the bank of BANK2 and BANK1 (R263). -/
theorem romOffset_high {n : Nat} (hs : c.romSize = 0x8000 * 2 ^ n) {a : Nat} (h : 0x4000 ≤ a) :
    c.romOffset a = (32 * c.bank2.toNat + c.bank1.toNat) % 2 ^ (n + 1) * 0x4000 + (a - 0x4000) := by
  simp only [Cart.romOffset, hk, if_neg h.not_gt, maskBank_eq_mod hs, bank2High_or_bank1, Config.romBankSize]

/-- The RAM window with the gate enabled (R265). -/
theorem cramOffset_open (hg : c.ramg = 0xA) (hr : 0 < c.ramSize) (a : Nat) :
    c.cramOffset a = some (((if c.mode = 1 then c.bank2.toNat * 0x2000 else 0) + (a - 0xA000)) % c.ramSize) := by
  simp [Cart.cramOffset, hk, hg, hr, Config.ramBankSize]

/-- The RAM window with the gate disabled, or without RAM (R264). -/
theorem cramOffset_closed (h : c.ramg ≠ 0xA ∨ c.ramSize = 0) (a : Nat) : c.cramOffset a = none := by
  have hn : ¬(c.ramg = 0xA ∧ c.ramSize > 0) := fun ⟨hg, hr⟩ => h.elim (· hg) hr.ne'
  simp only [Cart.cramOffset, hk, if_neg hn]

end

/-- Settles O45, by the offset each window reaches and the register each write sets. -/
theorem cartridgeBanking : Obligations.CartridgeBanking := by
  intro s a v
  refine ⟨fun hk => ⟨fun h => ?_, fun h1 h2 h => ?_, fun h1 h2 h => ?_⟩, ?_⟩
  · rw [busRead_rom h, busWrite_rom h, romOffset_noMbc hk, writeRegister_noMbc hk]
    exact ⟨rfl, rfl⟩
  · exact bus_cram h1 h2 (by rw [cramOffset_noMbc hk, if_pos h]) v
  · exact bus_cram_absent h1 h2 (by rw [cramOffset_noMbc hk, if_neg h.not_gt]) v
  · intro n hk hs rom ramOff
    refine ⟨fun h => ?_, fun h1 h2 => ?_, fun h1 h2 => ?_, fun h1 h2 => ?_, fun h => ?_, fun h1 h2 => ?_,
      fun h1 h2 => ⟨fun hg => ?_, fun hg hr => ?_⟩⟩
    · rw [busWrite_rom (by omega), writeRegister_ramg hk h]
    · rw [busWrite_rom (by omega), writeRegister_bank1 hk h1 h2]
    · rw [busWrite_rom (by omega), writeRegister_bank2 hk h1 h2]
    · rw [busWrite_rom h2, writeRegister_mode hk h1]
    · rw [busRead_rom (by omega), romOffset_low hk hs h]
    · rw [busRead_rom h2, romOffset_high hk hs h1]
    · exact bus_cram_absent h1 h2 (cramOffset_closed hk hg _) v
    · exact bus_cram h1 h2 (cramOffset_open hk hg hr _) v

end Sys2Proof.Machine
end

section
/-! The construction of a cartridge (spec/20_memory.md R250 to R253): the checksum as a sum, the codes of the header as numbers, and when an image
constructs. -/

namespace Sys2Proof.Machine

/-! ### The header checksum -/

/-- The loop of R251 takes every byte and one more from its start value. -/
theorem foldl_checksum (l : List Byte) (x : Byte) :
    l.foldl (fun x b => x - b - 1) x = x - BitVec.ofNat 8 ((l.map BitVec.toNat).sum + l.length) := by
  induction l generalizing x with
  | nil => simp
  | cons b l ih =>
    rw [List.foldl_cons, ih, List.map_cons, List.sum_cons, List.length_cons]
    bv_omega

/-- Inside the image the byte beyond its end does not matter. -/
theorem imageByte_of_lt {image : List Byte} {k : Nat} (h : k < image.length) : imageByte image k = image.getD k 0 := by
  simp [imageByte, h]

/-- The bytes under the checksum, one by one. -/
theorem checksum_bytes {image : List Byte} (h : 0x150 ≤ image.length) :
    (image.drop 0x134).take 0x19 = (List.range 25).map fun i => image.getD (0x134 + i) 0 := by
  refine List.ext_getElem (by simp; omega) fun i h1 h2 => ?_
  have hi : i < 25 := by simpa using h2
  simp [show 0x134 + i < image.length by omega]

/-- The checksum agrees with its byte when all of them together are a multiple of 256 (R251). -/
theorem headerChecksum_eq_iff {image : List Byte} (h : 0x150 ≤ image.length) : headerChecksum image = imageByte image 0x14D ↔
    (((List.range 25).map fun i => (image.getD (0x134 + i) 0).toNat).sum + 25 + (image.getD 0x14D 0).toNat) % 256 = 0 := by
  rw [headerChecksum, checksum_bytes h, foldl_checksum, imageByte_of_lt (by omega), List.map_map, List.length_map, List.length_range]
  simp only [Function.comp_def]
  generalize ((List.range 25).map fun i => (image.getD (0x134 + i) 0).toNat).sum = sum
  generalize image.getD 0x14D 0 = b
  constructor <;> intro <;> bv_omega

/-! ### The codes of the header -/

/-- The six type bytes of R252: three of No-MBC, three of MBC1. -/
def typeSupported (t : Nat) : Prop := (t = 0x00 ∨ t = 0x08 ∨ t = 0x09) ∨ t = 0x01 ∨ t = 0x02 ∨ t = 0x03

theorem kindOfType_of_supported {t : Byte} (h : typeSupported t.toNat) :
    kindOfType t = some (if t.toNat % 8 = 0 ∨ t.toNat = 9 then .noMbc else .mbc1) := by
  unfold typeSupported at h
  decide +revert

theorem kindOfType_of_unsupported {t : Byte} (h : ¬typeSupported t.toNat) : kindOfType t = none := by
  unfold typeSupported at h
  decide +revert

theorem romSizeOfCode_eq (c : Byte) : romSizeOfCode c = if c.toNat ≤ 8 then some (0x8000 * 2 ^ c.toNat) else none := by
  simp only [romSizeOfCode, Nat.shiftLeft_eq]

theorem ramSizeOfCode_eq (c : Byte) :
    ramSizeOfCode c = if c.toNat ≤ 5 then some ([0, 0x800, 0x2000, 0x8000, 0x20000, 0x10000].getD c.toNat 0) else none := by
  decide +revert

/-! ### The image -/

/-- The image is long enough, and its header checksum agrees (R250, R251). -/
def headerAgrees (image : List Byte) : Prop :=
  0x150 ≤ image.length ∧
    (((List.range 25).map fun i => (image.getD (0x134 + i) 0).toNat).sum + 25 + (image.getD 0x14D 0).toNat) % 256 = 0

/-- Both size codes are legal (R253). -/
def sizesLegal (image : List Byte) : Prop := (image.getD 0x148 0).toNat ≤ 8 ∧ (image.getD 0x149 0).toNat ≤ 5

theorem ofImage_of_bad_header {image : List Byte} (h : ¬headerAgrees image) : Cart.ofImage image = .error .invalidRom := by
  unfold Cart.ofImage
  by_cases hl : image.length < 0x150
  · rw [if_pos hl]
  · have hc : headerChecksum image ≠ imageByte image 0x14D := fun hc =>
      h ⟨Nat.not_lt.mp hl, (headerChecksum_eq_iff (Nat.not_lt.mp hl)).mp hc⟩
    rw [if_neg hl, if_pos hc]

/-- What a type byte, its kind and the two sizes construct, where the header agrees (R252, R253). -/
def Cart.ofCodes (t : Byte) (kind : Option MbcKind) (rom ram : Option Nat) : Except FaultRecord Cart :=
  match kind, rom, ram with
  | none, _, _ => .error (.unsupportedMbc t)
  | some k, some rom, some ram => .ok { kind := k, romSize := rom, ramSize := ram, ramg := 0, bank1 := 1, bank2 := 0, mode := 0 }
  | some _, _, _ => .error .invalidRom

theorem ofCodes_of_no_ram (t : Byte) (k : MbcKind) (rom : Option Nat) : Cart.ofCodes t (some k) rom none = .error .invalidRom := by
  cases rom <;> rfl

section
variable {image : List Byte} (hh : headerAgrees image)
include hh

theorem ofImage_of_header : Cart.ofImage image = Cart.ofCodes (image.getD 0x147 0) (kindOfType (image.getD 0x147 0))
    (romSizeOfCode (image.getD 0x148 0)) (ramSizeOfCode (image.getD 0x149 0)) := by
  obtain ⟨hl, hc⟩ := hh
  rw [← headerChecksum_eq_iff hl] at hc
  rw [Cart.ofImage, if_neg hl.not_gt, if_neg (not_not_intro hc), imageByte_of_lt (show 0x147 < image.length by omega),
    imageByte_of_lt (show 0x148 < image.length by omega), imageByte_of_lt (show 0x149 < image.length by omega)]
  rfl

theorem ofImage_of_unsupported (ht : ¬typeSupported (image.getD 0x147 0).toNat) :
    Cart.ofImage image = .error (.unsupportedMbc (image.getD 0x147 0)) := by
  rw [ofImage_of_header hh, kindOfType_of_unsupported ht]
  rfl

theorem ofImage_of_bad_sizes (ht : typeSupported (image.getD 0x147 0).toNat) (hs : ¬sizesLegal image) :
    Cart.ofImage image = .error .invalidRom := by
  rw [ofImage_of_header hh, kindOfType_of_supported ht, romSizeOfCode_eq, ramSizeOfCode_eq]
  obtain hs | hs := not_and_or.mp hs
  · rw [if_neg hs]
    rfl
  · rw [if_neg hs]
    exact ofCodes_of_no_ram _ _ _

theorem ofImage_of_legal (ht : typeSupported (image.getD 0x147 0).toNat) (hs : sizesLegal image) :
    Cart.ofImage image = .ok
      { kind := if (image.getD 0x147 0).toNat % 8 = 0 ∨ (image.getD 0x147 0).toNat = 9 then .noMbc else .mbc1
        romSize := 0x8000 * 2 ^ (image.getD 0x148 0).toNat
        ramSize := [0, 0x800, 0x2000, 0x8000, 0x20000, 0x10000].getD (image.getD 0x149 0).toNat 0
        ramg := 0, bank1 := 1, bank2 := 0, mode := 0 } := by
  obtain ⟨hrom, hram⟩ := hs
  rw [ofImage_of_header hh, kindOfType_of_supported ht, romSizeOfCode_eq, ramSizeOfCode_eq, if_pos hrom, if_pos hram]
  rfl

end

/-- Settles O46, by the outcome of each check in the model's order. -/
theorem cartridgeConstruction : Obligations.CartridgeConstruction := by
  intro image at' sum header noMbc mbc1 sizes
  refine ⟨fun c => ⟨fun h => ?_, ?_⟩, ofImage_of_unsupported, ofImage_of_bad_header, ofImage_of_bad_sizes⟩
  · by_cases hh : header
    · by_cases ht : noMbc ∨ mbc1
      · by_cases hs : sizes
        · exact ⟨hh, ht, hs, (Except.ok.inj ((ofImage_of_legal hh ht hs).symm.trans h)).symm⟩
        · cases (ofImage_of_bad_sizes hh ht hs).symm.trans h
      · cases (ofImage_of_unsupported hh ht).symm.trans h
    · cases (ofImage_of_bad_header hh).symm.trans h
  · rintro ⟨hh, ht, hs, rfl⟩
    exact ofImage_of_legal hh ht hs

end Sys2Proof.Machine
end

section
/-! Loading a cartridge (spec/20_memory.md R250, R253, spec/60_exceptions.md R882): what a list of bytes stored in memory reads as, the arrays of the
initial memory, none of which overlaps another, and the state that holds them. -/

namespace Sys2Proof.Machine

/-! ### Bytes stored one after the other -/

theorem read_writeBytes_below (m : Memory) {j k : Nat} (vs : List Byte) (h : j < k) : (m.writeBytes k vs).read j = m.read j := by
  induction vs generalizing m k with
  | nil => rfl
  | cons v vs ih => rw [Memory.writeBytes, ih _ (by omega), Memory.read_write_other _ _ (by omega)]

theorem read_writeBytes_above (m : Memory) {j k : Nat} (vs : List Byte) (h : k + vs.length ≤ j) :
    (m.writeBytes k vs).read j = m.read j := by
  induction vs generalizing m k with
  | nil => rfl
  | cons v vs ih =>
    rw [List.length_cons] at h
    rw [Memory.writeBytes, ih _ (by omega), Memory.read_write_other _ _ (by omega)]

/-- A byte of the list reads from its place. -/
theorem read_writeBytes_at (m : Memory) (k : Nat) {vs : List Byte} {i : Nat} {v : Byte} (h : vs[i]? = some v) :
    (m.writeBytes k vs).read (k + i) = v := by
  induction vs generalizing m k i with
  | nil => cases h
  | cons w vs ih =>
    rw [Memory.writeBytes]
    cases i with
    | zero =>
      rw [read_writeBytes_below _ _ (by omega), Nat.add_zero, Memory.read_write_same]
      exact Option.some.inj h
    | succ i =>
      rw [show k + (i + 1) = k + 1 + i by omega]
      exact ih _ _ h

theorem read_writeBytes_take_above (m : Memory) {j k n : Nat} (vs : List Byte) (h : k + n ≤ j) :
    (m.writeBytes k (vs.take n)).read j = m.read j := by
  have := List.length_take_le n vs
  exact read_writeBytes_above m _ (by omega)

theorem read_writeBytes_take_at (m : Memory) (k : Nat) {vs : List Byte} {n i : Nat} {v : Byte} (h : vs[i]? = some v) (hi : i < n) :
    (m.writeBytes k (vs.take n)).read (k + i) = v :=
  read_writeBytes_at m k (by rw [List.getElem?_take_of_lt hi, h])

/-! ### The arrays of the initial memory -/

section
variable (image : List Byte) (init : InitMemory) {n k : Nat} {v : Byte}

theorem initialMemory_vram (h : init.vram[k]? = some v) (hk : k < 0x2000) : (initialMemory image init n).read (0x8000 + k) = v := by
  unfold initialMemory cramBase romBase
  iterate 5 rw [read_writeBytes_below _ _ (by omega)]
  exact read_writeBytes_take_at _ _ h hk

theorem initialMemory_wram (h : init.wram[k]? = some v) (hk : k < 0x2000) : (initialMemory image init n).read (0xC000 + k) = v := by
  unfold initialMemory cramBase romBase
  iterate 4 rw [read_writeBytes_below _ _ (by omega)]
  exact read_writeBytes_take_at _ _ h hk

theorem initialMemory_oam (h : init.oam[k]? = some v) (hk : k < 160) : (initialMemory image init n).read (0xFE00 + k) = v := by
  unfold initialMemory cramBase romBase
  iterate 3 rw [read_writeBytes_below _ _ (by omega)]
  exact read_writeBytes_take_at _ _ h hk

theorem initialMemory_hram (h : init.hram[k]? = some v) (hk : k < 0x7F) : (initialMemory image init n).read (0xFF80 + k) = v := by
  unfold initialMemory cramBase romBase
  iterate 2 rw [read_writeBytes_below _ _ (by omega)]
  exact read_writeBytes_take_at _ _ h hk

variable (hn : n ≤ 0x20000)
include hn

theorem initialMemory_cram (h : init.cram[k]? = some v) (hk : k < n) : (initialMemory image init n).read (cramBase + k) = v := by
  unfold initialMemory
  rw [read_writeBytes_below _ _ (by unfold cramBase romBase; omega)]
  exact read_writeBytes_take_at _ _ h hk

/-- The image, and 0xFF beyond it, since no other array reaches ROM (R253). -/
theorem initialMemory_rom (k : Nat) : (initialMemory image init n).read (romBase + k) = image.getD k 0xFF := by
  unfold initialMemory
  rw [List.getD_eq_getElem?_getD]
  cases h : image[k]? with
  | some v => exact read_writeBytes_at _ _ h
  | none =>
    have hk := List.getElem?_eq_none_iff.mp h
    rw [read_writeBytes_above _ _ (by omega)]
    unfold cramBase romBase Config.oamBytes
    iterate 5 rw [read_writeBytes_take_above _ _ (by omega)]
    exact if_pos (Nat.le_add_right _ _)

end

/-! ### The loaded state -/

theorem loadCartridge_of_error {image : List Byte} {r : FaultRecord} (h : Cart.ofImage image = .error r) (init : InitMemory)
    (policy : UnmappedPolicy) (input : List (Nat × Buttons)) :
    State.loadCartridge image init policy input = { State.powerOn Cart.empty [] policy input with fault := some r } := by
  simp only [State.loadCartridge, h]

theorem loadCartridge_of_ok {image : List Byte} {c : Cart} (h : Cart.ofImage image = .ok c) (init : InitMemory)
    (policy : UnmappedPolicy) (input : List (Nat × Buttons)) :
    State.loadCartridge image init policy input = State.powerOn c (initialMemory image init c.ramSize) policy input := by
  simp only [State.loadCartridge, h]

/-- A constructed cartridge has at most 128 KiB of RAM, and its bank controller is as reset leaves it (R160, R253). -/
theorem ofImage_ok {image : List Byte} {c : Cart} (h : Cart.ofImage image = .ok c) :
    c.ramSize ≤ 0x20000 ∧ c = { c with ramg := 0x0, bank1 := 0x01, bank2 := 0x0, mode := 0 } := by
  obtain ⟨-, -, ⟨-, hram⟩, rfl⟩ := ((cartridgeConstruction image).1 c).mp h
  have hmax : ∀ r : Nat, r ≤ 5 → [0, 0x800, 0x2000, 0x8000, 0x20000, 0x10000].getD r 0 ≤ 0x20000 := by decide
  exact ⟨hmax _ hram, rfl⟩

/-- Settles O47, by the arrays of the initial memory; a failed construction leaves the record, which a step answers. -/
theorem loadedCartridgeIsInMemory : Obligations.LoadedCartridgeIsInMemory := by
  intro image init policy input s
  refine ⟨fun r h => ?_, fun c h => ?_⟩
  · have hs : s.fault = some r := congrArg State.fault (loadCartridge_of_error h init policy input)
    exact ⟨hs, step_of_fault hs⟩
  · obtain ⟨hram, hc⟩ := ofImage_ok h
    have hs : s = State.powerOn c (initialMemory image init c.ramSize) policy input := loadCartridge_of_ok h init policy input
    clear_value s
    subst hs
    exact ⟨rfl, hc.symm, rfl, rfl, rfl, rfl, rfl, wf_initialMemory image init c.ramSize, initialMemory_rom image init hram,
      fun _ _ => initialMemory_wram image init, fun _ _ => initialMemory_hram image init, fun _ _ => initialMemory_vram image init,
      fun _ _ => initialMemory_oam image init, fun _ _ => initialMemory_cram image init hram⟩

end Sys2Proof.Machine
end

section
/-! The units during an instruction (spec/10_state.md R113, R130, spec/20_memory.md R216, R234, spec/60_exceptions.md R860): what a write of the CPU
leaves of them, the addresses each form stores to, and with both what an instruction leaves. -/

namespace Sys2Proof.Machine

/-! ### What writes at some addresses leave -/

/-- What holds from `s` to `t` where only the addresses `P` are stored to: the units stand still, but a store to 0xFF04 clears DIV (R113)
and one to 0xFF46 restarts the DMA (R860); ROM, the cartridge's kind and sizes, and what the host owns stay (R130, R216). -/
structure StandStill (P : Word → Prop) (s t : State) : Prop where
  ppu : t.ppu.mode = s.ppu.mode ∧ t.ppu.dots = s.ppu.dots ∧ t.ppu.ly = s.ppu.ly ∧ t.ppu.fb = s.ppu.fb ∧ t.ppu.lcdWasOff = s.ppu.lcdWasOff
  timaAcc : t.timer.timaAcc = s.timer.timaAcc
  div : t.timer.div = s.timer.div ∧ t.timer.divAcc = s.timer.divAcc ∨ P 0xFF04 ∧ t.timer.div = 0 ∧ t.timer.divAcc = 0
  dma : t.dma = s.dma ∨ P 0xFF46 ∧ ∃ v, t.dma = Dma.begin v
  outside : t.presented = s.presented ∧ t.frameAcc = s.frameAcc ∧ t.joypad.buttons = s.joypad.buttons ∧ t.input = s.input ∧
    t.iter = s.iter ∧ t.policy = s.policy
  rom : ∀ k, romBase ≤ k → t.mem.read k = s.mem.read k
  cart : t.cart.kind = s.cart.kind ∧ t.cart.romSize = s.cart.romSize ∧ t.cart.ramSize = s.cart.ramSize

/-- What changes registers and the CPU's control state alone leaves the units. -/
theorem standStill_of_cpu {P : Word → Prop} {s t : State}
    (h : t = { s with regs := t.regs, ime := t.ime, imePending := t.imePending, halted := t.halted, haltBug := t.haltBug
                      cycles := t.cycles }) : StandStill P s t := by
  rw [h]
  exact ⟨⟨rfl, rfl, rfl, rfl, rfl⟩, rfl, .inl ⟨rfl, rfl⟩, .inl rfl, ⟨rfl, rfl, rfl, rfl, rfl, rfl⟩, fun _ _ => rfl,
    ⟨rfl, rfl, rfl⟩⟩

theorem standStill_refl (P : Word → Prop) (s : State) : StandStill P s s := standStill_of_cpu rfl

namespace StandStill

variable {P : Word → Prop} {s t u : State}

theorem trans (h : StandStill P s t) (h' : StandStill P t u) : StandStill P s u where
  ppu := by
    obtain ⟨hm, hd, hl, hf, hw⟩ := h.ppu
    obtain ⟨hm', hd', hl', hf', hw'⟩ := h'.ppu
    exact ⟨hm'.trans hm, hd'.trans hd, hl'.trans hl, hf'.trans hf, hw'.trans hw⟩
  timaAcc := h'.timaAcc.trans h.timaAcc
  div := by
    obtain ⟨hd, ha⟩ | hz := h'.div
    · rw [hd, ha]
      exact h.div
    · exact .inr hz
  dma := by
    obtain hd | hz := h'.dma
    · rw [hd]
      exact h.dma
    · exact .inr hz
  outside := by
    obtain ⟨hp, hf, hb, hi, hn, ho⟩ := h.outside
    obtain ⟨hp', hf', hb', hi', hn', ho'⟩ := h'.outside
    exact ⟨hp'.trans hp, hf'.trans hf, hb'.trans hb, hi'.trans hi, hn'.trans hn, ho'.trans ho⟩
  rom k hk := (h'.rom k hk).trans (h.rom k hk)
  cart := by
    obtain ⟨hk, ho, ha⟩ := h.cart
    obtain ⟨hk', ho', ha'⟩ := h'.cart
    exact ⟨hk'.trans hk, ho'.trans ho, ha'.trans ha⟩

end StandStill

/-! ### A write of the CPU -/

/-- No write of a PPU register moves the mode machine or draws (R209, R216). -/
theorem writePpuRegister_standing (s : State) (a : Nat) (v : Byte) :
    let p := (s.writePpuRegister a v).ppu
    p.mode = s.ppu.mode ∧ p.dots = s.ppu.dots ∧ p.ly = s.ppu.ly ∧ p.fb = s.ppu.fb ∧ p.lcdWasOff = s.ppu.lcdWasOff := by
  have on (u : State) : u.evalStatIfOn.ppu.mode = u.ppu.mode ∧ u.evalStatIfOn.ppu.dots = u.ppu.dots ∧ u.evalStatIfOn.ppu.ly = u.ppu.ly ∧
      u.evalStatIfOn.ppu.fb = u.ppu.fb ∧ u.evalStatIfOn.ppu.lcdWasOff = u.ppu.lcdWasOff := by
    unfold State.evalStatIfOn
    split <;> exact ⟨rfl, rfl, rfl, rfl, rfl⟩
  unfold State.writePpuRegister
  split
  case h_2 | h_5 => exact on _
  all_goals exact ⟨rfl, rfl, rfl, rfl, rfl⟩

/-- Of the timer's registers only DIV takes its accumulator along (R113, R210). -/
theorem writeRegister_timer (t : Timer) (a : Nat) (v : Byte) :
    (t.writeRegister a v).timaAcc = t.timaAcc ∧
      ((t.writeRegister a v).div = t.div ∧ (t.writeRegister a v).divAcc = t.divAcc ∨
        a = 0xFF04 ∧ (t.writeRegister a v).div = 0 ∧ (t.writeRegister a v).divAcc = 0) := by
  unfold Timer.writeRegister
  split
  · exact ⟨rfl, .inr ⟨rfl, rfl, rfl⟩⟩
  all_goals exact ⟨rfl, .inl ⟨rfl, rfl⟩⟩

/-- What a write port does to the units. -/
theorem deviceWrite_units (s : State) {d : Device} {a : Nat} (v : Byte) (hd : d.accepts a = true) :
    let t := s.deviceWrite d a v
    (t.ppu.mode = s.ppu.mode ∧ t.ppu.dots = s.ppu.dots ∧ t.ppu.ly = s.ppu.ly ∧ t.ppu.fb = s.ppu.fb ∧
      t.ppu.lcdWasOff = s.ppu.lcdWasOff) ∧
    t.timer.timaAcc = s.timer.timaAcc ∧
    (t.timer.div = s.timer.div ∧ t.timer.divAcc = s.timer.divAcc ∨ a = 0xFF04 ∧ t.timer.div = 0 ∧ t.timer.divAcc = 0) ∧
    (t.dma = s.dma ∨ a = 0xFF46 ∧ t.dma = Dma.begin v) := by
  obtain ⟨e, -⟩ | ⟨e, -⟩ | ⟨e, ha⟩ | ⟨e, -⟩ | ⟨e, -⟩ | ⟨e, -⟩ | ⟨e, -⟩ | ⟨e, -⟩ | ⟨e, -⟩ :=
    deviceWrite_cases s d a v hd <;> dsimp only <;> rw [e]
  case' inl => rw [writeCell_eq]
  case inr.inr.inl => exact ⟨⟨rfl, rfl, rfl, rfl, rfl⟩, rfl, .inl ⟨rfl, rfl⟩, .inr ⟨ha, rfl⟩⟩
  case inr.inr.inr.inl =>
    have hp := writePpuRegister_standing s a v
    rw [writePpuRegister_eq]
    exact ⟨hp, rfl, .inl ⟨rfl, rfl⟩, .inl rfl⟩
  case inr.inr.inr.inr.inl =>
    obtain ⟨ht, hdiv⟩ := writeRegister_timer s.timer a v
    exact ⟨⟨rfl, rfl, rfl, rfl, rfl⟩, ht, hdiv, .inl rfl⟩
  all_goals exact ⟨⟨rfl, rfl, rfl, rfl, rfl⟩, rfl, .inl ⟨rfl, rfl⟩, .inl rfl⟩

theorem standStill_memWrite {P : Word → Prop} {s t : State} {a : Word} {v : Byte} (h : s.memWrite a v = some t) (ha : P a) :
    StandStill P s t := by
  have hf := memWrite_frame h
  obtain rfl | ⟨d, hd, -, rfl⟩ := memWrite_cases h
  · exact standStill_refl P t
  · have at_addr (w : Word) (hw : a.toNat = w.toNat) : P w := BitVec.eq_of_toNat_eq hw ▸ ha
    obtain ⟨hp, ht, hdiv, hdma⟩ := deviceWrite_units s v (accepts_of_deviceAt hd)
    obtain ⟨hacc, hpolicy, hinput, hiter, hpres, -, -, hbuttons⟩ := hf.outside
    exact ⟨hp, ht, hdiv.imp_right (.imp_left (at_addr 0xFF04)), hdma.imp (fun h => h) fun ⟨hw, hv⟩ => ⟨at_addr 0xFF46 hw, v, hv⟩,
      ⟨hpres, hacc, hbuttons, hinput, hiter, hpolicy⟩, fun k hk => hf.cells k (.inr hk), hf.cart.2⟩

/-! ### The forms -/

section
variable {P : Word → Prop} {s t : State}

/-- A meaning ends with an update of registers and control state. -/
theorem ensures_end {u : State} {n : Nat} (h : StandStill P s t)
    (hu : u = { t with regs := u.regs, ime := u.ime, imePending := u.imePending, halted := u.halted, haltBug := u.haltBug
                       cycles := u.cycles }) : Ensures (u.done n) (StandStill P s) :=
  h.trans ((standStill_of_cpu hu).trans (standStill_of_cpu rfl))

theorem ensures_still {u : State} {n : Nat}
    (hu : u = { s with regs := u.regs, ime := u.ime, imePending := u.imePending, halted := u.halted, haltBug := u.haltBug
                       cycles := u.cycles }) : Ensures (u.done n) (StandStill P s) :=
  ensures_end (standStill_refl P s) hu

theorem ensures_writeAt {a : Word} {v : Byte} {k : State → Result} (ha : P a) (hk : ∀ t, StandStill P s t → Ensures (k t) (StandStill P s)) :
    Ensures (s.writeThen a v k) (StandStill P s) :=
  ensures_writeThen fun _ hw => hk _ (standStill_memWrite hw ha)

/-- A read and a write at one address. -/
theorem ensures_updateAt {a : Word} {f : Byte → Byte} {k : Byte → State → Result} (ha : P a)
    (hk : ∀ v t, StandStill P s t → Ensures (k v t) (StandStill P s)) :
    Ensures (s.readThen a fun v => s.writeThen a (f v) (k v)) (StandStill P s) :=
  ensures_readThen fun v => ensures_writeAt ha (hk v)

theorem ensures_pushAt {v : Word} {k : State → Result} (h1 : P (s.regs.sp - 1)) (h2 : P (s.regs.sp - 2))
    (hk : ∀ t, StandStill P s t → Ensures (k t) (StandStill P s)) : Ensures (s.push16Then v k) (StandStill P s) := by
  refine ensures_writeThen fun u hu => ensures_writeThen fun w hw => hk w ?_
  have hsp : u.regs.sp - 1 = s.regs.sp - 2 := by
    rw [memWrite_regs hu]
    show s.regs.sp - 1 - 1 = s.regs.sp - 2
    bv_omega
  have hs : StandStill P s (s.setSp (s.regs.sp - 1)) := standStill_of_cpu rfl
  have ht : StandStill P u (u.setSp (u.regs.sp - 1)) := standStill_of_cpu rfl
  exact ((hs.trans (standStill_memWrite hu h1)).trans ht).trans (standStill_memWrite hw (hsp ▸ h2))

theorem ensures_returnStill {n : Nat} : Ensures (returnTo n s) (StandStill P s) :=
  ensures_pop16Then fun _ _ => ensures_still rfl

theorem ensures_callAt {w : Word} {n : Nat} (h : P (s.regs.sp - 1) ∧ P (s.regs.sp - 2)) : Ensures (callTo w n s) (StandStill P s) :=
  ensures_pushAt h.1 h.2 fun _ ht => ensures_end ht rfl

end

/-! ### Where the instructions store -/

/-- `i` is the instruction this form stands for, for the forms that store. -/
def Form.StoresAs (x : Form) (i : Instr) : Prop :=
  match x with
  | .storeRegAtHl r => i = .ldAtHlReg r
  | .storeN8AtHl n => i = .ldAtHlN8 n
  | .storeATo (.pair .bc) _ => i = .ldAtBcA
  | .storeATo (.pair .de) _ => i = .ldAtDeA
  | .storeATo (.pair _) _ => False
  | .storeATo (.abs w) _ => i = .ldAtA16A w
  | .storeATo (.high n) _ => i = .ldhAtA8A n
  | .storeATo .highC _ => i = .ldAtCA
  | .storeAHlStep w => i = if w = 1 then .ldAtHlIncA else .ldAtHlDecA
  | .storeSp w => i = .ldAtA16Sp w
  | .pushR16 p => i = .pushPair p
  | .pushAf => i = .pushAf
  | .incAtHl => i = .incAtHl
  | .decAtHl => i = .decAtHl
  | .rotOnHl op => i = .rotAtHl op
  | .resBitAtHl b => i = .resAtHl b
  | .setBitAtHl b => i = .setAtHl b
  | .prefixCb sub => i = .prefixCb sub
  | .callTo w _ => i = .callA16 w
  | .callIf cc w => i = .callCond cc w
  | .restart y => i = .rst y
  | _ => True

theorem storesAs_formOf (i : Instr) : (formOf i).StoresAs i := by
  cases i <;> trivial

theorem highPage_eq (n : Byte) : highPage n = BitVec.ofNat 16 (0xFF00 + n.toNat) := by
  unfold highPage
  bv_omega

/-- cond(cc), as the test of the byte in F (R650). -/
theorem cond_eq_condOf (s : State) (cc : Cond) : s.cond cc = condOf cc s.regs.f := by
  have flag (k : Nat) : s.regs.f.getLsbD k = decide (s.regs.f.toNat / 2 ^ k % 2 = 1) := Nat.testBit_eq_decide_div_mod_eq
  cases cc <;> simp only [State.cond, State.flagZ, State.flagC, flag, condOf] <;> grind

theorem regOfCode_eq_none {z : BitVec 3} (h : regOfCode z = none) : z = 6 := by
  decide +revert

/-- The instructions that push store at SP-1 and SP-2. -/
theorem storesTo_of_push {i : Instr} {s : State} (h : i = .pushAf ∨ (∃ p, i = .pushPair p) ∨ (∃ y, i = .rst y) ∨
    ∃ w, i = .callA16 w ∨ ∃ cc, i = .callCond cc w ∧ condOf cc s.regs.f = true) :
    StoresTo i s (s.regs.sp - 1) ∧ StoresTo i s (s.regs.sp - 2) := by
  unfold StoresTo
  exact ⟨by simp only [true_or, h, and_self, or_true], by simp only [or_true, h, and_self]⟩

/-- The instructions that store at HL. -/
theorem storesTo_hl {i : Instr} {s : State} (h : i ∈ [Instr.ldAtHlIncA, .ldAtHlDecA, .incAtHl, .decAtHl] ∨ (∃ r, i = .ldAtHlReg r) ∨
    (∃ n, i = .ldAtHlN8 n) ∨ (∃ op, i = .rotAtHl op) ∨ (∃ b, i = .resAtHl b ∨ i = .setAtHl b) ∨
    ∃ sub : Byte, i = .prefixCb sub ∧ sub.extractLsb' 0 3 = 6 ∧ sub.extractLsb' 6 2 ≠ 1) : StoresTo i s s.hl :=
  .inl ⟨rfl, h⟩

theorem storesTo_storeA {f : AddrForm} {n : Nat} {i : Instr} (h : (Form.storeATo f n).StoresAs i) (s : State) :
    StoresTo i s (f.addr s) := by
  unfold StoresTo
  match f, h with
  | .pair .bc, h => exact .inr (.inl ⟨rfl, h⟩)
  | .pair .de, h => exact .inr (.inr (.inl ⟨rfl, h⟩))
  | .highC, h => exact .inr (.inr (.inr (.inl ⟨highPage_eq _, h⟩)))
  | .high n, h => exact .inr (.inr (.inr (.inr (.inl ⟨n, highPage_eq n, h⟩))))
  | .abs w, h => exact .inr (.inr (.inr (.inr (.inr (.inl h)))))

theorem storesTo_storeSp (w : Word) (s : State) : StoresTo (.ldAtA16Sp w) s w ∧ StoresTo (.ldAtA16Sp w) s (w + 1) := by
  simp [StoresTo]

/-- PREFIX CB with sub-opcode z = 6 and x ≠ 1 stores at HL (R604, R713); no other sub-opcode stores. -/
theorem execPrefixCb_standStill (sub : Byte) (s : State) : Ensures (execPrefixCb sub s) (StandStill (StoresTo (.prefixCb sub) s) s) := by
  have hl (hz : regOfCode (sub.extractLsb' 0 3) = none) (hx : sub.extractLsb' 6 2 ≠ 1) : StoresTo (.prefixCb sub) s s.hl :=
    storesTo_hl (.inr (.inr (.inr (.inr (.inr ⟨sub, rfl, regOfCode_eq_none hz, hx⟩)))))
  unfold execPrefixCb
  dsimp only
  split
  case h_1 r _ _ => cases r <;> exact ensures_still rfl
  case h_2 hx hz => exact ensures_updateAt (hl hz (by grind)) fun _ _ ht => ensures_end ht rfl
  case h_3 => exact ensures_still rfl
  case h_4 => exact ensures_readThen fun _ => ensures_still rfl
  case h_5 r _ _ => cases r <;> exact ensures_still rfl
  case h_6 hx hz => exact ensures_updateAt (hl hz (by grind)) fun _ _ ht => ensures_end ht rfl
  case h_7 r _ _ _ _ => cases r <;> exact ensures_still rfl
  case h_8 hz _ hx _ => exact ensures_updateAt (hl hz (by grind)) fun _ _ ht => ensures_end ht rfl

/-- What every form leaves of the units: the case split over the forms by how they access memory. -/
theorem run_standStill (x : Form) {i : Instr} (hi : x.StoresAs i) (s : State) : Ensures (x.run s) (StandStill (StoresTo i s) s) := by
  cases x with
  | loadReg r _ | loadRegN8 r _ | incReg r | decReg r | rotOnReg _ r | resBit _ r | setBit _ r => cases r <;> exact ensures_still rfl
  | loadR16 r _ | stepR16 _ r | addToHl r => cases r <;> exact ensures_still rfl
  | aluOnReg op _ | aluOnN8 op _ => cases op <;> exact ensures_still rfl
  | loadSpHl | loadHlSp _ | daa | cpl | scf | ccf | addSp _ | rotA _ | bitOnReg _ _ | jump _ | jumpHl | branch _ | nop | stop _ | di | ei =>
    exact ensures_still rfl
  | jumpIf _ _ | branchIf _ _ | halt => exact ensures_ite (fun _ => ensures_still rfl) fun _ => ensures_still rfl
  | illegal op => exact ensures_raise s _ _
  | loadRegAtHl r => exact ensures_readThen fun _ => by cases r <;> exact ensures_still rfl
  | aluOnHl op => exact ensures_readThen fun _ => by cases op <;> exact ensures_still rfl
  | loadAFrom _ _ | loadAHlStep _ | bitOnHl _ => exact ensures_readThen fun _ => ensures_still rfl
  | popR16 p =>
    unfold Form.run Machine.popR16
    exact ensures_pop16Then fun _ _ => by cases p <;> exact ensures_still rfl
  | popAf =>
    unfold Form.run execPopAf
    exact ensures_pop16Then fun _ _ => ensures_still rfl
  | reti =>
    unfold Form.run execReti State.returnFromInterrupt
    exact ensures_pop16Then fun _ _ => ensures_still rfl
  | returnTo _ => exact ensures_returnStill
  | returnIf _ => exact ensures_ite (fun _ => ensures_returnStill) fun _ => ensures_still rfl
  | storeRegAtHl r => exact ensures_writeAt (storesTo_hl (.inr (.inl ⟨r, hi⟩))) fun _ ht => ensures_end ht rfl
  | storeN8AtHl n => exact ensures_writeAt (storesTo_hl (.inr (.inr (.inl ⟨n, hi⟩)))) fun _ ht => ensures_end ht rfl
  | storeAHlStep w =>
    have hm : i ∈ [Instr.ldAtHlIncA, .ldAtHlDecA, .incAtHl, .decAtHl] := by
      rw [show i = _ from hi]
      split <;> simp
    exact ensures_writeAt (storesTo_hl (.inl hm)) fun _ ht => ensures_end ht rfl
  | storeATo f n => exact ensures_writeAt (storesTo_storeA hi s) fun _ ht => ensures_end ht rfl
  | storeSp w =>
    obtain rfl : i = .ldAtA16Sp w := hi
    obtain ⟨hlo, hhi⟩ := storesTo_storeSp w s
    exact ensures_writeThen fun _ h1 => ensures_writeThen fun _ h2 =>
      ensures_end ((standStill_memWrite h1 hlo).trans (standStill_memWrite h2 hhi)) rfl
  | incAtHl | decAtHl =>
    exact ensures_updateAt (storesTo_hl (.inl (by simp [show i = _ from hi]))) fun _ _ ht => ensures_end ht rfl
  | rotOnHl op => exact ensures_updateAt (storesTo_hl (.inr (.inr (.inr (.inl ⟨op, hi⟩))))) fun _ _ ht => ensures_end ht rfl
  | resBitAtHl b => exact ensures_updateAt (storesTo_hl (.inr (.inr (.inr (.inr (.inl ⟨b, .inl hi⟩)))))) fun _ _ ht => ensures_end ht rfl
  | setBitAtHl b => exact ensures_updateAt (storesTo_hl (.inr (.inr (.inr (.inr (.inl ⟨b, .inr hi⟩)))))) fun _ _ ht => ensures_end ht rfl
  | prefixCb sub =>
    obtain rfl : i = .prefixCb sub := hi
    exact execPrefixCb_standStill sub s
  | pushR16 p =>
    obtain ⟨h1, h2⟩ := storesTo_of_push (.inr (.inl ⟨p, hi⟩))
    exact ensures_pushAt h1 h2 fun _ ht => ensures_end ht rfl
  | pushAf =>
    obtain ⟨h1, h2⟩ := storesTo_of_push (.inl hi)
    exact ensures_pushAt h1 h2 fun _ ht => ensures_end ht rfl
  | callTo w n => exact ensures_callAt (storesTo_of_push (.inr (.inr (.inr ⟨w, .inl hi⟩))))
  | callIf cc w =>
    refine ensures_ite (fun hc => ensures_callAt (storesTo_of_push ?_)) fun _ => ensures_still rfl
    exact .inr (.inr (.inr ⟨w, .inr ⟨cc, hi, cond_eq_condOf s cc ▸ hc⟩⟩))
  | restart y => exact ensures_callAt (storesTo_of_push (.inr (.inr (.inl ⟨y, hi⟩))))

/-- Settles O39, by what each form leaves of the units and the addresses it stores to. -/
theorem unitsStandStillDuringAnInstruction : Obligations.UnitsStandStillDuringAnInstruction := by
  intro i s t h
  have hs : StandStill (StoresTo i s) s t := (run_standStill (formOf i) (storesAs_formOf i) s).next (exec_eq_run i s ▸ h)
  obtain ⟨hmode, hdots, hly, hfb, hoff⟩ := hs.ppu
  obtain ⟨hpres, hacc, hbuttons, hinput, hiter, hpolicy⟩ := hs.outside
  refine ⟨hmode, hdots, hly, hfb, hoff, hpres, hs.timaAcc, hs.div, ?_, hacc, hbuttons, hinput, hiter, hpolicy, hs.rom, hs.cart⟩
  refine hs.dma.imp_right fun ⟨hst, v, hv⟩ => ?_
  rw [hv]
  exact ⟨hst, rfl, rfl, rfl, rfl⟩

end Sys2Proof.Machine
end

section
/-! The encoding (spec/30_encoding.md): each cell of the two opcode maps against the encoding of the row in it (R310, R312), what an answer
of the decoder says of the bytes (R300, R313), the two round trips, and the families of Instr by the fields of their opcode
(R302, R311). -/

namespace Sys2Proof

open Machine

/-! ### The cells of the opcode maps -/

/-- The row of the opcode table in a cell of the map, with the operand `n` or `w`. PREFIX CB is a row of its own (R313). -/
@[simp] def Format.row (n : Byte) (w : Word) : Format → Instr
  | .op i => i
  | .op8 f => f n
  | .op16 f => f w
  | .cb => .prefixCb n

/-- The bytes after the opcode in this row. -/
@[simp] def Format.operandBytes (n : Byte) (w : Word) : Format → List Byte
  | .op _ => []
  | .op8 _ | .cb => [n]
  | .op16 _ => [loByte w, hiByte w]

@[simp] def Format.isCb : Format → Bool
  | .cb => true
  | _ => false

theorem exists_ofNat_eq (b : Byte) : ∃ k < 256, BitVec.ofNat 8 k = b := ⟨b.toNat, b.isLt, by simp⟩

/-- Every cell of the opcode map holds the row whose encoding begins with the cell's opcode (R310). -/
theorem encode_row (op n : Byte) (w : Word) : encode ((formatOf op).row n w) = op :: (formatOf op).operandBytes n w := by
  obtain ⟨k, hk, rfl⟩ := exists_ofNat_eq op
  interval_cases k <;> rfl

theorem isPrefixRow_row (op n : Byte) (w : Word) : ((formatOf op).row n w).isPrefixRow = (formatOf op).isCb := by
  obtain ⟨k, hk, rfl⟩ := exists_ofNat_eq op
  interval_cases k <;> rfl

/-- `i` is an instruction of the machine, and these are its bytes. -/
def Instr.EncodesAs (i : Instr) (bytes : List Byte) : Prop := i.wellFormed = true ∧ encode i = bytes

theorem encodesAs_row {op : Byte} (h : (formatOf op).isCb = false) (n : Byte) (w : Word) :
    ((formatOf op).row n w).EncodesAs (op :: (formatOf op).operandBytes n w) :=
  ⟨by rw [Instr.wellFormed, isPrefixRow_row, h]; rfl, encode_row op n w⟩

/-- Only the opcode 0xCB leads to the CB map (R313). -/
theorem opcode_of_cb {op : Byte} (h : formatOf op = .cb) : op = 0xCB := by
  have he := encode_row op 0 0
  rw [h] at he
  exact (List.cons.inj he).1.symm

/-- Every cell of the CB map holds the row encoded by 0xCB and the cell's sub-opcode (R312). -/
theorem encodesAs_cbInstr (sub : Byte) : (cbInstr sub).EncodesAs [0xCB, sub] := by
  obtain ⟨k, hk, rfl⟩ := exists_ofNat_eq sub
  interval_cases k <;> exact ⟨rfl, rfl⟩

/-! ### Answers of the decoder -/

theorem decode_word {op : Byte} {f : Word → Instr} (h : formatOf op = .op16 f) (w : Word) (bs : List Byte) :
    decode (op :: loByte w :: hiByte w :: bs) = .ok (f w, bs) := by
  simp [decode, h]

/-- The opcode and the operand bytes its format asks for (R300), or 0xCB and a sub-opcode (R313). -/
theorem decode_ok_cases {bs rest : List Byte} {i : Instr} (h : decode bs = .ok (i, rest)) :
    (∃ op n w, (formatOf op).isCb = false ∧ i = (formatOf op).row n w ∧ bs = op :: (formatOf op).operandBytes n w ++ rest) ∨
      ∃ op sub, formatOf op = .cb ∧ i = cbInstr sub ∧ bs = op :: sub :: rest := by
  unfold decode at h
  split at h
  case h_1 => cases h
  case h_2 op _ =>
    split at h <;> cases h
    case h_1 hf => exact .inl ⟨op, 0, 0, by simp [hf]⟩
    case h_2 n hf => exact .inl ⟨op, n, 0, by simp [hf]⟩
    case h_3 lo hi hf => exact .inl ⟨op, 0, pair hi lo, by simp [hf]⟩
    case h_4 hf => exact .inr ⟨op, _, hf, rfl, rfl⟩

/-! ### The two round trips -/

/-- Settles O3, row by row of the opcode table: the row's cell of the map is found by computing, and a 16-bit operand is put together again. -/
theorem decodeOfEncode : Obligations.DecodeOfEncode := by
  intro i bs hi
  cases i with
  | prefixCb sub => cases hi
  | ldBcN16 w | ldDeN16 w | ldHlN16 w | ldSpN16 w | ldAtA16Sp w | ldAtA16A w | ldAAtA16 w
  | jpA16 w | jpNzA16 w | jpZA16 w | jpNcA16 w | jpCA16 w
  | callA16 w | callNzA16 w | callZA16 w | callNcA16 w | callCA16 w => exact decode_word rfl w bs
  | _ => rfl

/-- Settles O4, by what each cell of the two maps encodes as. -/
theorem encodeOfDecode : Obligations.EncodeOfDecode := by
  intro bs rest i h
  obtain ⟨op, n, w, hcb, rfl, rfl⟩ | ⟨op, sub, hcb, rfl, rfl⟩ := decode_ok_cases h
  · obtain ⟨hwf, he⟩ := encodesAs_row hcb n w
    exact ⟨hwf, by rw [he]⟩
  · obtain ⟨hwf, he⟩ := encodesAs_cbInstr sub
    exact ⟨hwf, by rw [he, opcode_of_cb hcb]; rfl⟩

/-- Settles O1: the decoder computes each of the words. -/
theorem decodesSpecWords : Obligations.DecodesSpecWords := by
  unfold Obligations.DecodesSpecWords
  and_intros <;> rfl

/-- What a row encodes as decodes to it, whatever follows. -/
theorem Instr.EncodesAs.decode_eq {i : Instr} {bytes : List Byte} (h : i.EncodesAs bytes) (bs : List Byte) :
    decode (bytes ++ bs) = .ok (i, bs) := by
  obtain ⟨hwf, rfl⟩ := h
  exact decodeOfEncode i bs hwf

/-! ### The families by the fields of their opcode -/

theorem encodesAs_ldReg (r r2 : Reg8) : (Instr.ldReg r r2).EncodesAs [0b01#2 ++ r.code ++ r2.code] := by
  cases r <;> cases r2 <;> exact ⟨rfl, rfl⟩

theorem encodesAs_ldRegAtHl (r : Reg8) : (Instr.ldRegAtHl r).EncodesAs [0b01#2 ++ r.code ++ 0b110#3] := by
  cases r <;> exact ⟨rfl, rfl⟩

theorem encodesAs_ldAtHlReg (r : Reg8) : (Instr.ldAtHlReg r).EncodesAs [0b01#2 ++ 0b110#3 ++ r.code] := by
  cases r <;> exact ⟨rfl, rfl⟩

theorem encodesAs_ldRegN8 (r : Reg8) (n : Byte) : (Instr.ldRegN8 r n).EncodesAs [0b00#2 ++ r.code ++ 0b110#3, n] := by
  cases r <;> exact ⟨rfl, rfl⟩

theorem encodesAs_incReg (r : Reg8) : (Instr.incReg r).EncodesAs [0b00#2 ++ r.code ++ 0b100#3] := by
  cases r <;> exact ⟨rfl, rfl⟩

theorem encodesAs_decReg (r : Reg8) : (Instr.decReg r).EncodesAs [0b00#2 ++ r.code ++ 0b101#3] := by
  cases r <;> exact ⟨rfl, rfl⟩

theorem encodesAs_aluReg (op : AluOp) (r : Reg8) : (Instr.aluReg op r).EncodesAs [0b10#2 ++ op.code ++ r.code] := by
  cases op <;> cases r <;> exact ⟨rfl, rfl⟩

theorem encodesAs_aluAtHl (op : AluOp) : (Instr.aluAtHl op).EncodesAs [0b10#2 ++ op.code ++ 0b110#3] := by
  cases op <;> exact ⟨rfl, rfl⟩

theorem encodesAs_aluN8 (op : AluOp) (n : Byte) : (Instr.aluN8 op n).EncodesAs [0b11#2 ++ op.code ++ 0b110#3, n] := by
  cases op <;> exact ⟨rfl, rfl⟩

theorem encodesAs_ldR16N16 (rr : Reg16) (w : Word) :
    (Instr.ldR16N16 rr w).EncodesAs [0b00#2 ++ rr.code ++ 0b0001#4, loByte w, hiByte w] := by
  cases rr <;> exact ⟨rfl, rfl⟩

theorem encodesAs_addHlR16 (rr : Reg16) : (Instr.addHlR16 rr).EncodesAs [0b00#2 ++ rr.code ++ 0b1001#4] := by
  cases rr <;> exact ⟨rfl, rfl⟩

theorem encodesAs_incR16 (rr : Reg16) : (Instr.incR16 rr).EncodesAs [0b00#2 ++ rr.code ++ 0b0011#4] := by
  cases rr <;> exact ⟨rfl, rfl⟩

theorem encodesAs_decR16 (rr : Reg16) : (Instr.decR16 rr).EncodesAs [0b00#2 ++ rr.code ++ 0b1011#4] := by
  cases rr <;> exact ⟨rfl, rfl⟩

theorem encodesAs_popPair (p : StackPair) : (Instr.popPair p).EncodesAs [0b11#2 ++ p.code ++ 0b0001#4] := by
  cases p <;> exact ⟨rfl, rfl⟩

theorem encodesAs_pushPair (p : StackPair) : (Instr.pushPair p).EncodesAs [0b11#2 ++ p.code ++ 0b0101#4] := by
  cases p <;> exact ⟨rfl, rfl⟩

theorem encodesAs_retCond (cc : Cond) : (Instr.retCond cc).EncodesAs [0b110#3 ++ cc.code ++ 0b000#3] := by
  cases cc <;> exact ⟨rfl, rfl⟩

theorem encodesAs_jpCond (cc : Cond) (w : Word) :
    (Instr.jpCond cc w).EncodesAs [0b110#3 ++ cc.code ++ 0b010#3, loByte w, hiByte w] := by
  cases cc <;> exact ⟨rfl, rfl⟩

theorem encodesAs_callCond (cc : Cond) (w : Word) :
    (Instr.callCond cc w).EncodesAs [0b110#3 ++ cc.code ++ 0b100#3, loByte w, hiByte w] := by
  cases cc <;> exact ⟨rfl, rfl⟩

theorem encodesAs_jrCond (cc : Cond) (n : Byte) : (Instr.jrCond cc n).EncodesAs [0b001#3 ++ cc.code ++ 0b000#3, n] := by
  cases cc <;> exact ⟨rfl, rfl⟩

theorem encodesAs_rst (y : Fin 8) : (Instr.rst y).EncodesAs [0b11#2 ++ BitVec.ofNat 3 y.val ++ 0b111#3] := by
  match y with
  | 0 | 1 | 2 | 3 | 4 | 5 | 6 | 7 => exact ⟨rfl, rfl⟩

theorem encodesAs_rotReg (ro : RotOp) (r : Reg8) : (Instr.rotReg ro r).EncodesAs [0xCB, 0b00#2 ++ ro.code ++ r.code] := by
  cases ro <;> cases r <;> exact ⟨rfl, rfl⟩

theorem encodesAs_rotAtHl (ro : RotOp) : (Instr.rotAtHl ro).EncodesAs [0xCB, 0b00#2 ++ ro.code ++ 0b110#3] := by
  cases ro <;> exact ⟨rfl, rfl⟩

theorem encodesAs_bitReg (y : Fin 8) (r : Reg8) : (Instr.bitReg y r).EncodesAs [0xCB, 0b01#2 ++ BitVec.ofNat 3 y.val ++ r.code] := by
  match y with
  | 0 | 1 | 2 | 3 | 4 | 5 | 6 | 7 => cases r <;> exact ⟨rfl, rfl⟩

theorem encodesAs_bitAtHl (y : Fin 8) : (Instr.bitAtHl y).EncodesAs [0xCB, 0b01#2 ++ BitVec.ofNat 3 y.val ++ 0b110#3] := by
  match y with
  | 0 | 1 | 2 | 3 | 4 | 5 | 6 | 7 => exact ⟨rfl, rfl⟩

theorem encodesAs_resReg (y : Fin 8) (r : Reg8) : (Instr.resReg y r).EncodesAs [0xCB, 0b10#2 ++ BitVec.ofNat 3 y.val ++ r.code] := by
  match y with
  | 0 | 1 | 2 | 3 | 4 | 5 | 6 | 7 => cases r <;> exact ⟨rfl, rfl⟩

theorem encodesAs_resAtHl (y : Fin 8) : (Instr.resAtHl y).EncodesAs [0xCB, 0b10#2 ++ BitVec.ofNat 3 y.val ++ 0b110#3] := by
  match y with
  | 0 | 1 | 2 | 3 | 4 | 5 | 6 | 7 => exact ⟨rfl, rfl⟩

theorem encodesAs_setReg (y : Fin 8) (r : Reg8) : (Instr.setReg y r).EncodesAs [0xCB, 0b11#2 ++ BitVec.ofNat 3 y.val ++ r.code] := by
  match y with
  | 0 | 1 | 2 | 3 | 4 | 5 | 6 | 7 => cases r <;> exact ⟨rfl, rfl⟩

theorem encodesAs_setAtHl (y : Fin 8) : (Instr.setAtHl y).EncodesAs [0xCB, 0b11#2 ++ BitVec.ofNat 3 y.val ++ 0b110#3] := by
  match y with
  | 0 | 1 | 2 | 3 | 4 | 5 | 6 | 7 => exact ⟨rfl, rfl⟩

theorem pair_eq_ofNat (hi lo : Byte) : pair hi lo = BitVec.ofNat 16 (lo.toNat + 256 * hi.toNat) := by
  apply BitVec.eq_of_toNat_eq
  rw [pair_toNat, BitVec.toNat_ofNat]
  omega

/-- Settles O2: each family of the two maps decodes as it is encoded, and the words of the blocks that are no family compute. -/
theorem decodesByField : Obligations.DecodesByField := by
  intro bs r r2 rr p cc op ro y n lo hi b w
  have hw : w = pair hi lo := (pair_eq_ofNat hi lo).symm
  have hlo : loByte w = lo := by rw [hw, loByte_pair]
  have hhi : hiByte w = hi := by rw [hw, hiByte_pair]
  have hld := encodesAs_ldR16N16 rr w
  have hjp := encodesAs_jpCond cc w
  have hcall := encodesAs_callCond cc w
  rw [hlo, hhi] at hld hjp hcall
  exact ⟨(encodesAs_ldReg r r2).decode_eq bs, (encodesAs_ldRegAtHl r).decode_eq bs, (encodesAs_ldAtHlReg r).decode_eq bs, rfl,
    (encodesAs_aluReg op r).decode_eq bs, (encodesAs_aluAtHl op).decode_eq bs, (encodesAs_aluN8 op n).decode_eq bs,
    (encodesAs_rst y).decode_eq bs,
    (encodesAs_incReg r).decode_eq bs, rfl, (encodesAs_decReg r).decode_eq bs, rfl, (encodesAs_ldRegN8 r n).decode_eq bs, rfl,
    hld.decode_eq bs, (encodesAs_addHlR16 rr).decode_eq bs, (encodesAs_incR16 rr).decode_eq bs, (encodesAs_decR16 rr).decode_eq bs,
    rfl, rfl, rfl, rfl, rfl, rfl, rfl, rfl,
    (encodesAs_popPair p).decode_eq bs, rfl, (encodesAs_pushPair p).decode_eq bs, rfl,
    (encodesAs_retCond cc).decode_eq bs, hjp.decode_eq bs, hcall.decode_eq bs, (encodesAs_jrCond cc n).decode_eq bs,
    (encodesAs_rotReg ro r).decode_eq bs, (encodesAs_rotAtHl ro).decode_eq bs,
    (encodesAs_bitReg y r).decode_eq bs, (encodesAs_bitAtHl y).decode_eq bs,
    (encodesAs_resReg y r).decode_eq bs, (encodesAs_resAtHl y).decode_eq bs,
    (encodesAs_setReg y r).decode_eq bs, (encodesAs_setAtHl y).decode_eq bs⟩

end Sys2Proof
end

section
/-! The 8-bit loads (spec/40_load8.md R400 to R418) with LD rr,n16 and LD SP,HL (spec/41_load16.md R450, R452): the register file they write
(spec/00_scope.md R13, spec/10_state.md R101), the two outcomes of a gated access, and with them the loads and stores by the operation each runs. -/

namespace Sys2Proof.Machine

/-! ### The register file -/

theorem hiByte_eq_ofNat (w : Word) : hiByte w = BitVec.ofNat 8 (w.toNat / 256) := by
  rw [← hiByte_toNat, BitVec.ofNat_toNat, BitVec.setWidth_eq]

theorem loByte_eq_ofNat (w : Word) : loByte w = BitVec.ofNat 8 w.toNat :=
  BitVec.eq_of_toNat_eq (by rw [loByte_toNat, BitVec.toNat_ofNat])

/-- A write of a register leaves F, SP, PC and everything outside the register file. -/
theorem setReg_eq (s : State) (r : Reg8) (v : Byte) :
    s.setReg r v = { s with regs := { (s.setReg r v).regs with f := s.regs.f, sp := s.regs.sp, pc := s.regs.pc } } := by
  cases r <;> rfl

/-! ### The operations behind the families of instructions -/

theorem exec_ldReg (r r2 : Reg8) (s : State) : exec (.ldReg r r2) s = loadReg r r2 s := by
  cases r <;> cases r2 <;> rfl

theorem exec_ldRegN8 (r : Reg8) (n : Byte) (s : State) : exec (.ldRegN8 r n) s = loadRegN8 r n s := by
  cases r <;> rfl

theorem exec_ldR16N16 (rr : Reg16) (w : Word) (s : State) : exec (.ldR16N16 rr w) s = loadR16 rr w s := by
  cases rr <;> rfl

theorem exec_ldRegAtHl (r : Reg8) (s : State) : exec (.ldRegAtHl r) s = loadRegAtHl r s := by
  cases r <;> rfl

theorem exec_ldAtHlReg (r : Reg8) (s : State) : exec (.ldAtHlReg r) s = storeRegAtHl r s := by
  cases r <;> rfl

/-- Settles O11, by the laws of the register operands and the operation behind each family. -/
theorem registerFileAndLoads : Obligations.RegisterFileAndLoads := by
  intro s r r2 q rr n w
  refine ⟨⟨State.reg_setReg s r q n, setReg_eq s r n, pair_toNat _ _, pair_toNat _ _, pair_toNat _ _, rfl, State.reg16_setReg16 s rr w,
    ?_, ?_, ?_, rfl⟩, ⟨(encodesAs_ldReg r r2).2, exec_ldReg r r2 s⟩, ⟨(encodesAs_ldRegN8 r n).2, exec_ldRegN8 r n s⟩,
    ⟨(encodesAs_ldR16N16 rr w).2, exec_ldR16N16 rr w s⟩, rfl, rfl⟩
  all_goals
    rw [← hiByte_eq_ofNat, ← loByte_eq_ofNat]
    rfl

/-! ### The two outcomes of a gated access -/

/-- A read that is answered is followed by what its byte leads to; one that is not raises (R230, R801). -/
theorem readThen_outcome (s : State) (a : Word) (k : Byte → Result) :
    (s.Answers a → ∃ v, s.memRead a = some v ∧ s.readThen a k = k v) ∧ (¬s.Answers a → s.readThen a k = s.busFault a) := by
  refine ⟨fun h => ?_, readThen_of_not_answers k⟩
  obtain ⟨v, hv⟩ := memRead_of_answers h
  exact ⟨v, hv, readThen_some k hv⟩

/-- A write that is answered has its frame; one that is not raises (R231, R801). -/
theorem writeThen_outcome (s : State) (a : Word) (v : Byte) (k : State → Result) :
    (s.Answers a → ∃ t, s.memWrite a v = some t ∧ WriteFrame s t a ∧ s.writeThen a v k = k t) ∧
      (¬s.Answers a → s.writeThen a v k = s.busFault a) := by
  refine ⟨fun h => ?_, writeThen_of_not_answers v k⟩
  obtain ⟨t, ht⟩ := memWrite_of_answers v h
  exact ⟨t, ht, memWrite_frame ht, writeThen_some k ht⟩

/-! ### The loads from memory -/

/-- An instruction that is LD A from an address (R405, R406, R409, R411, R413). -/
theorem loadA_outcome {i : Instr} {s : State} {a : Word} {n : Nat} (h : exec i s = loadA a n s) :
    (s.Answers a → ∃ v, s.memRead a = some v ∧ exec i s = .next { s with regs := { s.regs with a := v }, cycles := n }) ∧
      (¬s.Answers a → exec i s = s.busFault a) := by
  rw [h]
  exact readThen_outcome s a _

/-- An instruction that is LD A,(HL) with a step of HL (R415, R416). -/
theorem loadAHlStep_outcome {i : Instr} {s : State} {step hl : Word} (h : exec i s = loadAHlStep step s) (hw : s.hl + step = hl) :
    (s.Answers s.hl → ∃ v, s.memRead s.hl = some v ∧
      exec i s = .next { s with regs := { s.regs with a := v, h := hl.extractLsb' 8 8, l := hl.extractLsb' 0 8 }, cycles := 8 }) ∧
      (¬s.Answers s.hl → exec i s = s.busFault s.hl) := by
  rw [h, ← hw]
  exact readThen_outcome s s.hl _

/-- Settles O12: every form is a gated read at its address with the register written after it. -/
theorem memoryLoads : Obligations.MemoryLoads := by
  refine ⟨fun r => (encodesAs_ldRegAtHl r).2, ⟨rfl, rfl, rfl, rfl, rfl, fun _ => rfl, fun _ => rfl⟩, fun s w n => ⟨fun r => ?_, ?_, ?_⟩⟩
  · rw [exec_ldRegAtHl]
    exact readThen_outcome s s.hl _
  · simp only [List.forall_mem_cons]
    exact ⟨loadA_outcome rfl, loadA_outcome rfl, loadA_outcome rfl, loadA_outcome (congrArg (loadA · 12 s) (highPage_eq n)),
      loadA_outcome (congrArg (loadA · 8 s) (highPage_eq s.regs.c)), List.forall_mem_nil _⟩
  · simp only [List.forall_mem_cons]
    exact ⟨loadAHlStep_outcome rfl rfl, loadAHlStep_outcome rfl (sub_eq_add_neg s.hl 1).symm, List.forall_mem_nil _⟩

/-! ### The stores -/

/-- An instruction that is one write and nothing else (R402, R404, R407, R408, R410, R412, R414). -/
theorem store_outcome {i : Instr} {s : State} {a : Word} {v : Byte} {n : Nat} (h : exec i s = s.writeThen a v fun t => t.done n) :
    (s.Answers a → ∃ t, s.memWrite a v = some t ∧ WriteFrame s t a ∧ exec i s = .next { t with cycles := n }) ∧
      (¬s.Answers a → exec i s = s.busFault a) := by
  rw [h]
  exact writeThen_outcome s a v _

/-- An instruction that is LD (HL),A with a step of HL (R417, R418): a write leaves the registers, so HL steps from its old value. -/
theorem storeAHlStep_outcome {i : Instr} {s : State} {step hl : Word} (h : exec i s = storeAHlStep step s) (hw : s.hl + step = hl) :
    (s.Answers s.hl → ∃ t, s.memWrite s.hl s.regs.a = some t ∧ WriteFrame s t s.hl ∧
      exec i s = .next { t with regs := { s.regs with h := hl.extractLsb' 8 8, l := hl.extractLsb' 0 8 }, cycles := 8 }) ∧
      (¬s.Answers s.hl → exec i s = s.busFault s.hl) := by
  rw [h, ← hw]
  refine (writeThen_outcome s s.hl s.regs.a _).imp_left fun hs ha => ?_
  obtain ⟨t, ht, hf, he⟩ := hs ha
  exact ⟨t, ht, hf, hf.regs ▸ he⟩

/-- Settles O13: every form is a gated write at its address, with HL stepped after it in two of them. -/
theorem memoryStores : Obligations.MemoryStores := by
  refine ⟨fun r => ?_, ⟨rfl, rfl, rfl, rfl, rfl, fun _ => rfl, fun _ => ⟨rfl, rfl⟩⟩, fun s w n r => ⟨?_, ?_⟩⟩
  · cases r <;> rfl
  · simp only [List.forall_mem_cons]
    exact ⟨store_outcome (exec_ldAtHlReg r s), store_outcome rfl, store_outcome rfl, store_outcome rfl, store_outcome rfl,
      store_outcome (congrArg (storeA · 12 s) (highPage_eq n)), store_outcome (congrArg (storeA · 8 s) (highPage_eq s.regs.c)),
      List.forall_mem_nil _⟩
  · simp only [List.forall_mem_cons]
    exact ⟨storeAHlStep_outcome rfl rfl, storeAHlStep_outcome rfl (sub_eq_add_neg s.hl 1).symm, List.forall_mem_nil _⟩

end Sys2Proof.Machine
end

section
/-! The 16-bit loads and the stack (spec/41_load16.md R451, R454 to R457, spec/00_scope.md R15): what a write leaves of the bus's answers and of the
cells, the two accesses of a push and of a pop with every way they end, the frame of a push, and with them LD (a16),SP, PUSH and POP. -/

namespace Sys2Proof.Machine

/-! ### What a write leaves of the next access -/

/-- A write of the CPU unblocks no address: it can start a transfer but not end one, and the PPU's mode stays (R209, R230, R860). -/
theorem blocked_of_memWrite {s t : State} {a b : Word} {v : Byte} (h : s.memWrite a v = some t) (hb : s.blocked b = true) :
    t.blocked b = true := by
  have hs := standStill_memWrite (P := fun _ => True) h trivial
  obtain ⟨hmode, -⟩ := hs.ppu
  have hdma : s.dma.active = true → t.dma.active = true := by
    obtain hd | ⟨-, w, hd⟩ := hs.dma <;> rw [hd]
    · exact id
    · exact fun _ => rfl
  rw [blocked_iff] at hb ⊢
  rw [hmode]
  exact hb.imp_left (.imp_left hdma)

/-- After a write of the CPU the bus still answers every address it answered. -/
theorem answers_of_memWrite {s t : State} {a b : Word} {v : Byte} (h : s.memWrite a v = some t) (hb : s.Answers b) : t.Answers b := by
  obtain hp | hb | hd := hb
  · exact .inl ((memWrite_policy h).trans hp)
  · exact .inr (.inl (blocked_of_memWrite h hb))
  · exact .inr (.inr hd)

/-- The cell of an address is fixed by the cartridge's registers. -/
theorem cellOf_congr {s t : State} (h : t.cart = s.cart) (a : Nat) : t.cellOf a = s.cellOf a := by
  unfold State.cellOf
  rw [h]

/-- A write of RAM changes memory only. -/
theorem memWrite_ram {s t : State} {a : Word} {v : Byte} (h : s.memWrite a v = some t) (ha : ramAddr a) : t = { s with mem := t.mem } := by
  obtain ⟨-, hblocked, hopen⟩ := writeChangesOneByte s t a v h
  cases hb : s.blocked a with
  | true => rw [hblocked hb]
  | false => exact (hopen hb ha).1

/-! ### LD (a16),SP -/

/-- Settles O14: two gated writes one after the other, the first of which leaves the second address answered. -/
theorem storesSpLowByteFirst : Obligations.StoresSpLowByteFirst := by
  intro s a
  obtain ⟨hlow, hlowRaise⟩ := writeThen_outcome s a (loByte s.regs.sp) fun t => t.writeThen (a + 1) (hiByte s.regs.sp) fun u => u.done 20
  refine ⟨rfl, hlowRaise, fun ha => ?_⟩
  obtain ⟨t, ht, hf, he⟩ := hlow ha
  obtain ⟨hhigh, hhighRaise⟩ := writeThen_outcome t (a + 1) (hiByte s.regs.sp) fun u => u.done 20
  refine ⟨t, ht, hf, fun hn => he.trans (hhighRaise hn), fun hb => ?_⟩
  obtain ⟨u, hu, hg, he'⟩ := hhigh (answers_of_memWrite ht hb)
  exact ⟨u, hu, hg, he.trans he'⟩

/-! ### The frame of a push -/

/-- An address outside a range is none of the range. -/
theorem ne_of_outside {lo hi : Nat} {a w : Word} (ha : a.toNat < lo ∨ hi < a.toNat) (hlo : lo ≤ w.toNat := by decide)
    (hhi : w.toNat ≤ hi := by decide) : a ≠ w := by
  rintro rfl
  omega

/-- IF stays where the address is neither its own nor one of those whose write can request STAT. -/
theorem iflag_of_outside {s t : State} {a : Word} (h : WriteFrame s t a) (ha : a.toNat < 0xFF0F ∨ 0xFF45 < a.toNat) :
    t.iflag = s.iflag := by
  refine (h.iflag (ne_of_outside ha)).resolve_right ?_
  rintro ⟨rfl | rfl, -⟩
  · exact absurd ha (by decide)
  · exact absurd ha (by decide)

/-- An address of a ROM window, or 0xFFFF, the one before them, has no cell but of ROM. -/
theorem romBase_le_of_cellOf {s : State} {a k : Nat} (ha : a < 0x8000 ∨ a = 0xFFFF) (h : s.cellOf a = some k) : romBase ≤ k := by
  obtain ha | rfl := ha
  · rw [cellOf_rom ha] at h
    exact Option.some.inj h ▸ Nat.le_add_right _ _
  · cases h

/-- The two writes of a push touch nothing but SP and what is behind the bus. -/
theorem State.Pushes.touches {s t : State} {v : Word} (h : s.Pushes v t) : Touches s t := by
  obtain ⟨t1, hhi, hlo⟩ := h
  exact (((Touches.refl.setSp _).write hhi).setSp _).write hlo

/-- A push has the frame of a push: that of its write at SP-1, then that of its write at SP-2 (R15). A bank register is written by the first
only where the second reaches no cell but of ROM. -/
theorem pushFrame_of_pushes {s t : State} {v : Word} (h : s.Pushes v t) : PushFrame s t := by
  have hframe := h.touches.frame.2
  obtain ⟨t1, hhi, hlo⟩ := h
  have h1 := memWrite_frame hhi
  have h2 := memWrite_frame hlo
  constructor
  case regs => rw [h2.regs, State.setSp, h1.regs]; rfl
  case control => rw [hframe]; exact ⟨rfl, rfl, rfl, rfl, rfl⟩
  case outside => rw [hframe]; exact ⟨rfl, rfl, rfl, rfl, rfl, rfl, rfl⟩
  case cells =>
    intro k hk1 hk2
    refine (h2.cells k ?_).trans (h1.cells k (.inl hk1))
    by_cases ha : 0x8000 ≤ (s.regs.sp - 1).toNat
    · rw [State.cellOf_setSp, cellOf_congr (h1.cart.1 ha)]
      exact .inl hk2
    · exact or_iff_not_imp_left.mpr fun hc => romBase_le_of_cellOf (by bv_omega) (not_not.mp hc)
  case rom => exact fun k hk => (h2.cells k (.inr hk)).trans (h1.cells k (.inr hk))
  case devices =>
    intro lo hi h
    have ha := h (s.regs.sp - 1) (by simp)
    have hb := h (s.regs.sp - 2) (by simp)
    refine ⟨?_, ?_, ?_, ?_, ?_, ?_, ?_⟩ <;> rintro ⟨rfl, rfl⟩
    · exact (h2.cart.1 (by omega)).trans (h1.cart.1 (by omega))
    · exact (h2.joypad (ne_of_outside hb)).trans (h1.joypad (ne_of_outside ha))
    · exact (h2.serial (ne_of_outside hb) (ne_of_outside hb)).trans (h1.serial (ne_of_outside ha) (ne_of_outside ha))
    · exact (h2.timer hb).trans (h1.timer ha)
    · exact ⟨(h2.ppu (by omega)).trans (h1.ppu (by omega)), (h2.dma (ne_of_outside hb)).trans (h1.dma (ne_of_outside ha))⟩
    · exact (h2.ie (ne_of_outside hb)).trans (h1.ie (ne_of_outside ha))
    · have h1i : t1.iflag = (s.setSp (s.regs.sp - 1)).iflag := iflag_of_outside h1 ha
      exact (iflag_of_outside h2 hb).trans h1i
  case ram =>
    intro hr1 hr2
    have e1 := memWrite_ram hhi hr1
    have e2 := memWrite_ram hlo hr2
    have hcell (x : Nat) : (t1.setSp (s.regs.sp - 2)).cellOf x = s.cellOf x := by rw [e1]; rfl
    refine ⟨by rw [e2, e1]; rfl, fun x hx => ?_⟩
    have hx1 := hx.imp_right And.left
    have hx2 := hx.imp_right And.right
    rw [← hcell, ← hcell (s.regs.sp - 2).toNat] at hx2
    exact (h2.reads hr2 x hx2).trans (h1.reads hr1 x hx1)

/-! ### Pushes and pops, and every way they end -/

theorem push16Then_of_high {s t : State} {v : Word} (k : State → Result)
    (h : (s.setSp (s.regs.sp - 1)).memWrite (s.regs.sp - 1) (hiByte v) = some t) :
    s.push16Then v k = (t.setSp (s.regs.sp - 2)).writeThen (s.regs.sp - 2) (loByte v) k := by
  have hsp : t.regs.sp - 1 = s.regs.sp - 2 := by
    rw [memWrite_regs h, State.sp_setSp]
    bv_omega
  rw [← hsp]
  exact writeThen_some _ h

theorem push16Then_of_pushes {s t : State} {v : Word} (k : State → Result) (h : s.Pushes v t) : s.push16Then v k = k t := by
  obtain ⟨t1, hhi, hlo⟩ := h
  exact (push16Then_of_high k hhi).trans (writeThen_some k hlo)

/-- A push of which both bytes are answered has its frame; one of which a byte is not raises with SP at it (R15, R801). -/
theorem push16Then_outcome (s : State) (v : Word) (k : State → Result) :
    (s.Answers (s.regs.sp - 1) → s.Answers (s.regs.sp - 2) → ∃ t, s.Pushes v t ∧ PushFrame s t ∧ s.push16Then v k = k t) ∧
    (¬s.Answers (s.regs.sp - 1) → s.push16Then v k = (s.setSp (s.regs.sp - 1)).busFault (s.regs.sp - 1)) ∧
    (∀ t1, (s.setSp (s.regs.sp - 1)).memWrite (s.regs.sp - 1) (hiByte v) = some t1 → ¬t1.Answers (s.regs.sp - 2) →
      s.push16Then v k = (t1.setSp (s.regs.sp - 2)).busFault (s.regs.sp - 2)) := by
  refine ⟨fun ha hb => ?_, fun ha => writeThen_of_not_answers (s := s.setSp _) _ _ ha, fun t1 ht hb => ?_⟩
  · obtain ⟨t1, ht1⟩ := memWrite_of_answers (s := s.setSp (s.regs.sp - 1)) (hiByte v) ha
    have hb1 : t1.Answers (s.regs.sp - 2) := answers_of_memWrite ht1 hb
    obtain ⟨t, ht⟩ := memWrite_of_answers (s := t1.setSp (s.regs.sp - 2)) (loByte v) hb1
    have hp : s.Pushes v t := ⟨t1, ht1, ht⟩
    exact ⟨t, hp, pushFrame_of_pushes hp, push16Then_of_pushes k hp⟩
  · exact (push16Then_of_high k ht).trans (writeThen_of_not_answers (s := t1.setSp _) _ _ hb)

theorem pop16Then_of_reads {s : State} {w : Word} (k : Word → State → Result) (hlo : s.memRead s.regs.sp = some (loByte w))
    (hhi : s.memRead (s.regs.sp + 1) = some (hiByte w)) : s.pop16Then k = k w (s.setSp (s.regs.sp + 2)) := by
  have hsp : s.regs.sp + 1 + 1 = s.regs.sp + 2 := by bv_omega
  calc
    s.pop16Then k = k (pair (hiByte w) (loByte w)) (s.setSp (s.regs.sp + 1 + 1)) :=
      (readThen_some _ hlo).trans (readThen_some (s := s.setSp (s.regs.sp + 1)) _ hhi)
    _ = k w (s.setSp (s.regs.sp + 2)) := by rw [pair_hiByte_loByte, hsp]

/-- A pop of which both bytes are answered reads a word, and SP is two higher (R15). -/
theorem pop16Then_answered {s : State} (ha : s.Answers s.regs.sp) (hb : s.Answers (s.regs.sp + 1)) :
    ∃ w, s.memRead s.regs.sp = some (loByte w) ∧ s.memRead (s.regs.sp + 1) = some (hiByte w) ∧
      ∀ k, s.pop16Then k = k w (s.setSp (s.regs.sp + 2)) := by
  obtain ⟨lo, hlo⟩ := memRead_of_answers ha
  obtain ⟨hi, hhi⟩ := memRead_of_answers hb
  rw [← loByte_pair hi lo] at hlo
  rw [← hiByte_pair hi lo] at hhi
  exact ⟨pair hi lo, hlo, hhi, fun k => pop16Then_of_reads k hlo hhi⟩

/-- What is a pop raises with nothing done where the low byte is not answered, and with SP one higher where the high byte is not (R15, R801). -/
theorem pop16Then_raises {s : State} {o : Result} {k : Word → State → Result} (h : o = s.pop16Then k) :
    (¬s.Answers s.regs.sp → o = s.busFault s.regs.sp) ∧
    (s.Answers s.regs.sp → ¬s.Answers (s.regs.sp + 1) → o = (s.setSp (s.regs.sp + 1)).busFault (s.regs.sp + 1)) := by
  subst h
  refine ⟨readThen_of_not_answers _, fun ha hb => ?_⟩
  obtain ⟨lo, hlo⟩ := memRead_of_answers ha
  exact (readThen_some _ hlo).trans (readThen_of_not_answers (s := s.setSp (s.regs.sp + 1)) _ hb)

/-! ### PUSH and POP -/

theorem exec_pushPair (p : StackPair) (s : State) : exec (.pushPair p) s = pushR16 p s := by
  cases p <;> rfl

theorem exec_popPair (p : StackPair) (s : State) : exec (.popPair p) s = popR16 p s := by
  cases p <;> rfl

theorem exec_popAf (s : State) :
    exec .popAf s = s.pop16Then fun v t => ((t.setReg .a (hiByte v)).setF (loByte v)).done 12 := rfl

/-- An instruction that is one push and nothing else (R454, R455). -/
theorem push_outcome {i : Instr} {s : State} {v : Word} (h : exec i s = s.push16Then v fun t => t.done 16) :
    (s.Answers (s.regs.sp - 1) → s.Answers (s.regs.sp - 2) → ∃ t, s.Pushes v t ∧ PushFrame s t ∧
      exec i s = .next { t with cycles := 16 }) ∧
    (¬s.Answers (s.regs.sp - 1) → exec i s = (s.setSp (s.regs.sp - 1)).busFault (s.regs.sp - 1)) ∧
    (∀ t1, (s.setSp (s.regs.sp - 1)).memWrite (s.regs.sp - 1) (v.extractLsb' 8 8) = some t1 →
      ¬t1.Answers (s.regs.sp - 2) → exec i s = (t1.setSp (s.regs.sp - 2)).busFault (s.regs.sp - 2)) := by
  rw [h]
  exact push16Then_outcome s v _

/-- Settles O15: each instruction is one push of its word. -/
theorem pushStoresHighByteFirst : Obligations.PushStoresHighByteFirst := by
  refine ⟨fun p => (encodesAs_pushPair p).2, rfl, fun s => ?_⟩
  simp only [List.forall_mem_cons]
  exact ⟨push_outcome rfl, push_outcome rfl, push_outcome rfl, push_outcome rfl, List.forall_mem_nil _⟩

/-- Settles O16: each instruction is one pop, and a write of its registers from the two bytes of the word. -/
theorem popReadsLowByteFirst : Obligations.PopReadsLowByteFirst := by
  refine ⟨fun p => (encodesAs_popPair p).2, rfl, fun s => ⟨fun ha hb => ?_, ?_⟩⟩
  · obtain ⟨w, hlo, hhi, hpop⟩ := pop16Then_answered ha hb
    exact ⟨loByte w, hiByte w, hlo, hhi, (exec_popPair .bc s).trans (hpop _), (exec_popPair .de s).trans (hpop _),
      (exec_popPair .hl s).trans (hpop _), (exec_popAf s).trans (hpop _)⟩
  · simp only [List.forall_mem_cons]
    exact ⟨pop16Then_raises (exec_popPair .bc s), pop16Then_raises (exec_popPair .de s), pop16Then_raises (exec_popPair .hl s),
      pop16Then_raises (exec_popAf s), List.forall_mem_nil _⟩

/-! ### A pop after a push in RAM -/

@[simp] theorem sp_setReg16_pairOf (s : State) (p : StackPair) (v : Word) : (s.setReg16 (pairOf p) v).regs.sp = s.regs.sp := by
  cases p <;> rfl

/-- A write to a pair of the value it has leaves the registers. -/
theorem regs_setReg16_of_regs_eq {s t : State} (h : t.regs = s.regs) (rr : Reg16) : (t.setReg16 rr (s.reg16 rr)).regs = s.regs := by
  cases rr <;> simp [State.setReg16, State.reg16, State.setSp, h]

theorem memRead_of_cellOf {s : State} {a : Word} {k : Nat} (hb : s.blocked a = false) (hk : s.cellOf a.toNat = some k) :
    s.memRead a = some (s.mem.read k) := by
  rw [memRead_of_not_blocked (by simp [hb]), busRead_of_cellOf hk]

theorem memWrite_of_cellOf {s : State} {a : Word} {k : Nat} (v : Byte) (ha : ramAddr a) (hb : s.blocked a = false)
    (hk : s.cellOf a.toNat = some k) : s.memWrite a v = some { s with mem := s.mem.write k v } := by
  rw [memWrite_of_not_blocked (by simp [hb]), busWrite_eq_writeCell (.inl ha), writeCell_of_cellOf hk]

/-- A state after a push in RAM: SP is two lower, and the two cells hold the bytes of the word. -/
def State.pushedAt (s : State) (k1 k2 : Nat) (v : Word) : State :=
  { s.setSp (s.regs.sp - 2) with mem := (s.mem.write k1 (hiByte v)).write k2 (loByte v) }

section
variable {s : State} {k1 k2 : Nat} (v : Word)

theorem pushes_pushedAt (hr1 : ramAddr (s.regs.sp - 1)) (hr2 : ramAddr (s.regs.sp - 2)) (hb1 : s.blocked (s.regs.sp - 1) = false)
    (hb2 : s.blocked (s.regs.sp - 2) = false) (hk1 : s.cellOf (s.regs.sp - 1).toNat = some k1)
    (hk2 : s.cellOf (s.regs.sp - 2).toNat = some k2) : s.Pushes v (s.pushedAt k1 k2 v) :=
  ⟨_, memWrite_of_cellOf (s := s.setSp _) _ hr1 hb1 hk1, memWrite_of_cellOf (s := State.setSp _ _) _ hr2 hb2 hk2⟩

/-- A pop after a push in RAM gives the word back, and leaves SP where it was before the push. -/
theorem pop16Then_pushedAt (k : Word → State → Result) (n : Nat) (hb1 : s.blocked (s.regs.sp - 1) = false)
    (hb2 : s.blocked (s.regs.sp - 2) = false) (hk1 : s.cellOf (s.regs.sp - 1).toNat = some k1)
    (hk2 : s.cellOf (s.regs.sp - 2).toNat = some k2) (hne : k1 ≠ k2) :
    let t : State := { s.pushedAt k1 k2 v with cycles := n }
    t.pop16Then k = k v (t.setSp s.regs.sp) := by
  intro t
  have hsp1 : t.regs.sp + 1 = s.regs.sp - 1 := by
    show s.regs.sp - 2 + 1 = s.regs.sp - 1
    bv_omega
  have hsp2 : t.regs.sp + 2 = s.regs.sp := by
    show s.regs.sp - 2 + 2 = s.regs.sp
    bv_omega
  have hlo : t.memRead t.regs.sp = some (loByte v) :=
    (memRead_of_cellOf (s := t) hb2 hk2).trans (congrArg some (Memory.read_write_same _ k2 _))
  have hhi : t.memRead (t.regs.sp + 1) = some (hiByte v) := by
    rw [hsp1, memRead_of_cellOf (s := t) hb1 hk1]
    exact congrArg some ((Memory.read_write_other _ _ hne).trans (Memory.read_write_same _ k1 _))
  rw [pop16Then_of_reads k hlo hhi, hsp2]

end

/-- Settles O17: the pop reads the two cells the push wrote. -/
theorem popUndoesPush : Obligations.PopUndoesPush := by
  intro s p q k1 k2 hr1 hr2 hb1 hb2 hk1 hk2 hne
  have hpush := pushes_pushedAt (s.reg16 (pairOf p)) hr1 hr2 hb1 hb2 hk1 hk2
  refine ⟨_, _, (exec_pushPair p s).trans (push16Then_of_pushes _ hpush),
    (exec_popPair q _).trans (pop16Then_pushedAt _ _ _ hb1 hb2 hk1 hk2 hne), State.reg16_setReg16 _ (pairOf q) _,
    sp_setReg16_pairOf _ q _, ?_⟩
  rintro rfl
  exact regs_setReg16_of_regs_eq rfl (pairOf p)

end Sys2Proof.Machine
end

section
/-! SP plus a displacement (spec/43_alu16.md R560, R564, spec/41_load16.md R453): the signed sum, the carries of its low byte, and the byte of F the flags
make (spec/42_alu8.md R500). -/

namespace Sys2Proof.Machine

/-- A 16-bit word plus a sign-extended byte is the signed sum modulo 2^16 (R12). -/
theorem add_sext16_eq_ofInt (w : Word) (e : Byte) : w + sext16 e = BitVec.ofInt 16 (w.toNat + e.toInt) := by
  rw [BitVec.ofInt_add, BitVec.ofInt_natCast, BitVec.ofNat_toNat, BitVec.setWidth_eq]
  rfl

/-- H and C of SP plus a displacement are the carries of the unsigned addition of the low byte (R560). -/
theorem spe_eq (sp : Word) (e : Byte) :
    spe sp e = (BitVec.ofInt 16 (sp.toNat + e.toInt), BitVec.carry 4 (loByte sp) e false, BitVec.carry 8 (loByte sp) e false) := by
  have he := e.isLt
  unfold spe BitVec.carry
  rw [add_sext16_eq_ofInt, loByte_toNat]
  refine Prod.ext rfl (Prod.ext ?_ ?_)
  all_goals
    simp only [decide_eq_decide, Bool.toNat_false]
    omega

/-- The byte F gets from four flags, through the setter that clears its low nibble (R102, R500). -/
theorem flagByte_eq_fOf (z n h c : Bool) : flagByte ⟨z, n, h, c⟩ &&& 0xF0 = fOf z n h c := by decide +revert

theorem setFlags_eq_withF (s : State) (z n h c : Bool) : s.setFlags ⟨z, n, h, c⟩ = s.withF z n h c := by
  unfold State.setFlags State.setF State.withF
  rw [flagByte_eq_fOf]

/-- The end of both instructions: the sum goes where `put` says, and the flags are Z = N = 0 and the carries of the low byte. -/
theorem done_spe (put : Word → State) (sp : Word) (e : Byte) (n : Nat) :
    ((put (spe sp e).1).setFlags { z := false, n := false, h := (spe sp e).2.1, c := (spe sp e).2.2 }).done n =
      .next { (put (BitVec.ofInt 16 (sp.toNat + e.toInt))).withF false false (BitVec.carry 4 (loByte sp) e false)
                (BitVec.carry 8 (loByte sp) e false) with cycles := n } := by
  rw [spe_eq, setFlags_eq_withF]
  rfl

/-- Settles O25: the sum goes to SP in one instruction and to HL in the other. -/
theorem spPlusDisplacement : Obligations.SpPlusDisplacement := fun s e =>
  ⟨⟨rfl, rfl⟩, done_spe s.setSp s.regs.sp e 16, done_spe (s.setReg16 .hl) s.regs.sp e 12⟩

end Sys2Proof.Machine
end

section
/-! 8-bit arithmetic and logic (spec/42_alu8.md R500 to R533): the result and the flags of each operation on the bytes alone, the operation behind
each family of instructions, and DAA as a correction of each digit of a binary coded decimal result. -/

namespace Sys2Proof.Machine

/-! ### Results and flags -/

theorem carryByte_eq_ofNat (c : Bool) : carryByte c = BitVec.ofNat 8 c.toNat := by cases c <;> rfl

/-- A sum of naturals as a byte is the sum of bytes (R12). -/
theorem ofNat_toNat_add_add (a : Byte) (m n : Nat) :
    BitVec.ofNat 8 (a.toNat + m + n) = a + BitVec.ofNat 8 m + BitVec.ofNat 8 n := by
  rw [BitVec.ofNat_add, BitVec.ofNat_add, BitVec.ofNat_toNat, BitVec.setWidth_eq]

/-- A difference of integers as a byte is the difference of bytes (R12). -/
theorem ofInt_toNat_sub_sub (a : Byte) (m n : Nat) :
    BitVec.ofInt 8 (a.toNat - m - n) = a - BitVec.ofNat 8 m - BitVec.ofNat 8 n := by
  simp [Int.sub_eq_add_neg, BitVec.sub_eq_add_neg, BitVec.ofInt_add, BitVec.ofInt_neg]

/-- add8 of R500: the sum of the bytes, and in H and C the carries out of bits 3 and 7. -/
theorem add8_eq (a v : Byte) (c : Bool) :
    add8 a v c = (a + v + carryByte c, ⟨a + v + carryByte c == 0, false, BitVec.carry 4 a v c, BitVec.carry 8 a v c⟩) := by
  have hres : BitVec.ofNat 8 (a.toNat + v.toNat + c.toNat) = a + v + carryByte c := by
    rw [ofNat_toNat_add_add, carryByte_eq_ofNat, BitVec.ofNat_toNat, BitVec.setWidth_eq]
  have ha := a.isLt
  have hv := v.isLt
  simp only [add8, BitVec.carry, hres, Prod.mk.injEq, Flags.mk.injEq, decide_eq_decide, true_and]
  omega

/-- sub8 of R501: the difference of the bytes, and in H and C the borrows, which are there where adding the complement does not carry. -/
theorem sub8_eq (a v : Byte) (c : Bool) :
    sub8 a v c = (a - v - carryByte c,
      ⟨a - v - carryByte c == 0, true, !BitVec.carry 4 a (~~~v) !c, !BitVec.carry 8 a (~~~v) !c⟩) := by
  have hres : BitVec.ofInt 8 (a.toNat - v.toNat - c.toNat) = a - v - carryByte c := by
    rw [ofInt_toNat_sub_sub, carryByte_eq_ofNat, BitVec.ofNat_toNat, BitVec.setWidth_eq]
  have ha := a.isLt
  have hv := v.isLt
  have hc : (!c).toNat + c.toNat = 1 := by cases c <;> rfl
  simp only [sub8, BitVec.carry, hres, Prod.mk.injEq, Flags.mk.injEq, BitVec.toNat_not, ← decide_not, decide_eq_decide, true_and]
  omega

/-- What the eight operations leave in A. -/
theorem alu_result {op : AluOp} (h : op ≠ .cp) (a v : Byte) (c : Bool) : (alu op a v c).1 = aluA op a v c := by
  cases op with
  | add | adc => simp [alu, aluA, add8_eq, carryByte]
  | sub | sbc => simp [alu, aluA, sub8_eq, carryByte]
  | and | xor | or => rfl
  | cp => exact absurd rfl h

/-- What they leave in F. -/
theorem alu_flags (op : AluOp) (a v : Byte) (c : Bool) : flagByte (alu op a v c).2 &&& 0xF0 = aluF op a v c := by
  refine (flagByte_eq_fOf _ _ _ _).trans ?_
  cases op with
  | add | adc => simp [alu, aluF, add8_eq, carryByte, beq_eq_decide]
  | sub | sbc | cp => simp [alu, aluF, sub8_eq, carryByte, beq_eq_decide, BitVec.sub_eq_iff_eq_add]
  | and | xor | or => simp [alu, aluF, logicFlags, beq_eq_decide]

/-- Every operation but CP writes A (R523). -/
theorem aluTo_of_ne_cp {op : AluOp} (h : op ≠ .cp) (s : State) (v : Byte) :
    s.aluTo op v = (s.setReg .a (alu op s.regs.a v s.flagC).1).setFlags (alu op s.regs.a v s.flagC).2 := by
  rw [State.aluTo, if_neg h]
  rfl

/-- Of a state an operation changes A and F only (R502 to R525). -/
theorem aluTo_eq (s : State) (op : AluOp) (v : Byte) :
    s.aluTo op v = { s with regs := { s.regs with a := aluA op s.regs.a v s.flagC, f := aluF op s.regs.a v s.flagC } } := by
  rw [← alu_flags]
  by_cases h : op = .cp
  · subst h
    rfl
  · rw [← alu_result h, aluTo_of_ne_cp h]
    rfl

theorem low_nibble_beq (v n : Byte) : (v &&& 0xF == n) = (v.toNat % 16 == n.toNat) := by
  rw [beq_eq_decide, beq_eq_decide, decide_eq_decide, ← BitVec.toNat_inj, BitVec.toNat_and]
  exact Eq.congr_left (Nat.and_two_pow_sub_one_eq_mod v.toNat 4)

/-- INC of a byte is 0 from 0xFF only, and carries out of a low nibble of 15 (R526). -/
theorem inc8_eq (v : Byte) (c : Bool) : inc8 v c = (v + 1, ⟨v == 0xFF, false, v.toNat % 16 == 15, c⟩) := by
  have hz : (v + 1 == 0) = (v == 0xFF) := by
    rw [beq_eq_decide, beq_eq_decide, decide_eq_decide]
    bv_omega
  rw [inc8, hz, low_nibble_beq]
  rfl

/-- DEC of a byte is 0 from 1 only, and borrows into a low nibble of 0 (R528). -/
theorem dec8_eq (v : Byte) (c : Bool) : dec8 v c = (v - 1, ⟨v == 0x01, true, v.toNat % 16 == 0, c⟩) := by
  have hz : (v - 1 == 0) = (v == 0x01) := by
    rw [beq_eq_decide, beq_eq_decide, decide_eq_decide]
    bv_omega
  rw [dec8, hz, low_nibble_beq]
  rfl

/-! ### The operations behind the families of instructions -/

theorem exec_aluReg (op : AluOp) (r : Reg8) (s : State) : exec (.aluReg op r) s = aluOnReg op r s := by
  cases op <;> cases r <;> rfl

theorem exec_aluAtHl (op : AluOp) (s : State) : exec (.aluAtHl op) s = aluOnHl op s := by
  cases op <;> rfl

theorem exec_aluN8 (op : AluOp) (n : Byte) (s : State) : exec (.aluN8 op n) s = aluOnN8 op n s := by
  cases op <;> rfl

theorem exec_incReg (r : Reg8) (s : State) : exec (.incReg r) s = stepReg inc8 r s := by
  cases r <;> rfl

theorem exec_decReg (r : Reg8) (s : State) : exec (.decReg r) s = stepReg dec8 r s := by
  cases r <;> rfl

theorem done_aluTo (s : State) (op : AluOp) (v : Byte) (n : Nat) :
    (s.aluTo op v).done n =
      .next { s with regs := { s.regs with a := aluA op s.regs.a v s.flagC, f := aluF op s.regs.a v s.flagC }, cycles := n } := by
  rw [aluTo_eq]
  rfl

/-- Settles O18: the operation on the register's byte. -/
theorem aluOnRegister : Obligations.AluOnRegister := fun op r s =>
  ⟨(encodesAs_aluReg op r).2, (exec_aluReg op r s).trans (done_aluTo s op (s.reg r) 4)⟩

/-- Settles O19: one gated read, and the operation on its byte. -/
theorem aluOnMemory : Obligations.AluOnMemory := by
  intro op s
  obtain ⟨hread, hraise⟩ := readThen_outcome s s.hl fun v => (s.aluTo op v).done 8
  refine ⟨(encodesAs_aluAtHl op).2, fun ha => ?_, fun hn => (exec_aluAtHl op s).trans (hraise hn)⟩
  obtain ⟨v, hv, he⟩ := hread ha
  exact ⟨v, hv, (exec_aluAtHl op s).trans (he.trans (done_aluTo s op v 8))⟩

/-- Settles O20: the operation on the immediate. -/
theorem aluOnImmediate : Obligations.AluOnImmediate := fun op n s =>
  ⟨(encodesAs_aluN8 op n).2, (exec_aluN8 op n s).trans (done_aluTo s op n 8)⟩

/-! ### INC and DEC -/

theorem stepReg_eq (f : Byte → Bool → Byte × Flags) (r : Reg8) (s : State) {v : Byte} {z n h c : Bool}
    (hf : f (s.reg r) s.flagC = (v, ⟨z, n, h, c⟩)) : stepReg f r s = .next { (s.setReg r v).withF z n h c with cycles := 4 } := by
  rw [stepReg, hf, setFlags_eq_withF]
  rfl

/-- A read and a write at HL that are answered, with the operation on the byte between them (R527, R529). -/
theorem stepAtHl_outcome (f : Byte → Bool → Byte × Flags) (s : State) :
    (s.Answers s.hl → ∃ v t, s.memRead s.hl = some v ∧ s.memWrite s.hl (f v s.flagC).1 = some t ∧ WriteFrame s t s.hl ∧
      stepAtHl f s = (t.setFlags (f v s.flagC).2).done 12) ∧
    (¬s.Answers s.hl → stepAtHl f s = s.busFault s.hl) := by
  obtain ⟨hread, hraise⟩ := readThen_outcome s s.hl
    fun v => s.writeThen s.hl (f v s.flagC).1 fun t => (t.setFlags (f v s.flagC).2).done 12
  refine ⟨fun ha => ?_, hraise⟩
  obtain ⟨v, hv, he⟩ := hread ha
  obtain ⟨t, ht, hframe, he'⟩ := (writeThen_outcome s s.hl (f v s.flagC).1 fun t => (t.setFlags (f v s.flagC).2).done 12).1 ha
  exact ⟨v, t, hv, ht, hframe, he.trans he'⟩

/-- Settles O21: the operations on the byte, in a register and between the read and the write of (HL). -/
theorem incDecByte : Obligations.IncDecByte := by
  intro s r
  obtain ⟨hinc, hincRaise⟩ := stepAtHl_outcome inc8 s
  obtain ⟨hdec, hdecRaise⟩ := stepAtHl_outcome dec8 s
  simp only [inc8_eq, setFlags_eq_withF] at hinc
  simp only [dec8_eq, setFlags_eq_withF] at hdec
  exact ⟨⟨(encodesAs_incReg r).2, (encodesAs_decReg r).2, rfl, rfl⟩,
    (exec_incReg r s).trans (stepReg_eq inc8 r s (inc8_eq _ _)), (exec_decReg r s).trans (stepReg_eq dec8 r s (dec8_eq _ _)),
    hinc, hdec, fun hn => ⟨hincRaise hn, hdecRaise hn⟩⟩

/-! ### DAA, CPL, SCF and CCF -/

/-- DAA of a result with its flags. -/
def daaOf (r : Byte × Flags) : Byte × Flags := daa r.1 r.2.n r.2.h r.2.c

/-- The correction DAA makes in the high digit: after an addition also where the result is above 0x99 (R530). -/
def daaHigh (r : Byte × Flags) : Nat := if r.2.c = true ∨ (r.2.n = false ∧ 0x99 < r.1.toNat) then 0x60 else 0

/-- The correction DAA makes in the low digit: after an addition also where the digit is above 9 (R530). -/
def daaLow (r : Byte × Flags) : Nat := if r.2.h = true ∨ (r.2.n = false ∧ 9 < r.1.toNat % 16) then 0x06 else 0

/-- The result with its two corrections: added after an addition, subtracted after a subtraction. -/
def daaResult (r : Byte × Flags) : Byte :=
  if r.2.n then BitVec.ofInt 8 (r.1.toNat - daaHigh r - daaLow r : Int) else BitVec.ofNat 8 (r.1.toNat + daaHigh r + daaLow r)

/-- DAA decides both corrections on the A before it: the high one leaves the low digit (R530). -/
theorem daaOf_eq (r : Byte × Flags) : daaOf r = (daaResult r, ⟨daaResult r == 0, r.2.n, false, daaHigh r == 0x60⟩) := by
  obtain ⟨a, z, n, h, c⟩ := r
  unfold daaResult
  rw [ofInt_toNat_sub_sub, ofNat_toNat_add_add]
  cases n with
  | true => cases c <;> cases h <;> simp [daaOf, daa, daaHigh, daaLow]
  | false =>
    have hlow (high : Bool) : (if high then a + 0x60 else a).toNat % 16 = a.toNat % 16 := by
      cases high
      · rfl
      · show (a + 0x60).toNat % 16 = a.toNat % 16
        bv_omega
    have hhighEq : daaHigh (a, ⟨z, false, h, c⟩) = if c || decide (a.toNat > 0x99) then 0x60 else 0 := by simp [daaHigh]
    have hlowEq : daaLow (a, ⟨z, false, h, c⟩) = if h || decide (a.toNat % 16 > 9) then 0x06 else 0 := by simp [daaLow]
    simp only [daaOf, daa, hlow, hhighEq, hlowEq]
    cases c || decide (a.toNat > 0x99) <;> cases h || decide (a.toNat % 16 > 9) <;> simp

/-- A with the four flags: the result DAA corrects. -/
def State.aFlags (s : State) : Byte × Flags := (s.regs.a, ⟨s.flagZ, s.flagN, s.flagH, s.flagC⟩)

theorem exec_daa (s : State) : exec .daa s = ((s.setReg .a (daaOf s.aFlags).1).setFlags (daaOf s.aFlags).2).done 4 := rfl

/-- Settles O22: for DAA by its two corrections, and for the others by the flags alone. -/
theorem daaCplScfCcf : Obligations.DaaCplScfCcf := by
  intro s
  refine ⟨⟨rfl, rfl, rfl, rfl⟩, ?_, ?_, ?_, ?_⟩
  · rw [exec_daa, daaOf_eq]
    exact congrArg (State.done · 4) (setFlags_eq_withF (s.setReg .a _) _ _ _ _)
  · have hnot : s.regs.a ^^^ 0xFF = ~~~s.regs.a := BitVec.xor_allOnes
    rw [hnot]
    exact congrArg (State.done · 4) (setFlags_eq_withF (s.setReg .a (~~~s.regs.a)) _ _ _ _)
  · exact congrArg (State.done · 4) (setFlags_eq_withF s _ _ _ _)
  · exact congrArg (State.done · 4) (setFlags_eq_withF s _ _ _ _)

/-! ### Decimal arithmetic -/

/-- The byte of two decimal digits is the number and 6 more for each ten. -/
theorem toNat_bcd {x : Nat} (hx : x < 100) : (bcd x).toNat = x + 6 * (x / 10) := by
  have ht : x / 10 % 10 = x / 10 := Nat.mod_eq_of_lt (by omega)
  rw [bcd, BitVec.toNat_ofNat, ht]
  omega

section
variable {x y : Nat} (hx : x < 100) (hy : y < 100) (c : Bool)
include hx hy

theorem toNat_add8_bcd : (add8 (bcd x) (bcd y) c).1.toNat = (x + y + c.toNat + 6 * (x / 10 + y / 10)) % 256 := by
  rw [add8, BitVec.toNat_ofNat, toNat_bcd hx, toNat_bcd hy]
  omega

theorem toNat_sub8_bcd :
    ((sub8 (bcd x) (bcd y) c).1.toNat : Int) = (x - y - c.toNat + 6 * (x / 10 - y / 10)) % 256 := by
  rw [sub8, BitVec.toNat_ofInt, toNat_bcd hx, toNat_bcd hy]
  omega

/-- After an addition DAA corrects the low digit where the units carry. -/
theorem daaLow_add8_bcd : daaLow (add8 (bcd x) (bcd y) c) = if 10 ≤ x % 10 + y % 10 + c.toNat then 6 else 0 := by
  have hc := Bool.toNat_le c
  rw [daaLow, toNat_add8_bcd hx hy]
  simp only [add8, toNat_bcd hx, toNat_bcd hy, decide_eq_true_eq, true_and]
  refine if_congr ?_ rfl rfl
  omega

/-- It corrects the high digit where the sum carries. -/
theorem daaHigh_add8_bcd : daaHigh (add8 (bcd x) (bcd y) c) = if 100 ≤ x + y + c.toNat then 0x60 else 0 := by
  have hc := Bool.toNat_le c
  rw [daaHigh, toNat_add8_bcd hx hy]
  simp only [add8, toNat_bcd hx, toNat_bcd hy, decide_eq_true_eq, true_and]
  refine if_congr ?_ rfl rfl
  by_cases hcarry : 100 ≤ x + y + c.toNat
  · omega
  · have hdigits : x + y + c.toNat + 6 * (x / 10 + y / 10) ≤ 0x99 := by omega
    omega

/-- After a subtraction DAA corrects the low digit where the units borrow. -/
theorem daaLow_sub8_bcd : daaLow (sub8 (bcd x) (bcd y) c) = if x % 10 < y % 10 + c.toNat then 6 else 0 := by
  simp only [daaLow, sub8, toNat_bcd hx, toNat_bcd hy, decide_eq_true_eq, Bool.true_eq_false, false_and, or_false]
  refine if_congr ?_ rfl rfl
  omega

/-- It corrects the high digit where the difference borrows. -/
theorem daaHigh_sub8_bcd : daaHigh (sub8 (bcd x) (bcd y) c) = if x < y + c.toNat then 0x60 else 0 := by
  have hc := Bool.toNat_le c
  simp only [daaHigh, sub8, toNat_bcd hx, toNat_bcd hy, decide_eq_true_eq, Bool.true_eq_false, false_and, or_false]
  refine if_congr ?_ rfl rfl
  omega

/-- DAA after an addition leaves the two digits of the sum, and C where it carried. -/
theorem daaOf_add8_bcd : (daaOf (add8 (bcd x) (bcd y) c)).1 = bcd ((x + y + c.toNat) % 100) ∧
    ((daaOf (add8 (bcd x) (bcd y) c)).2.c = true ↔ 100 ≤ x + y + c.toNat) := by
  have hc := Bool.toNat_le c
  have hn : (add8 (bcd x) (bcd y) c).2.n = false := rfl
  have hz := toNat_bcd (Nat.mod_lt (x + y + c.toNat) (by decide : 100 > 0))
  rw [daaOf_eq, daaResult, hn, daaHigh_add8_bcd hx hy, daaLow_add8_bcd hx hy, toNat_add8_bcd hx hy]
  refine ⟨BitVec.eq_of_toNat_eq ?_, by simp⟩
  rw [hz, if_neg Bool.false_ne_true, BitVec.toNat_ofNat]
  split <;> split <;> omega

/-- DAA after a subtraction leaves the two digits of the difference, and C where it borrowed. -/
theorem daaOf_sub8_bcd : (daaOf (sub8 (bcd x) (bcd y) c)).1 = bcd ((x + 100 - y - c.toNat) % 100) ∧
    ((daaOf (sub8 (bcd x) (bcd y) c)).2.c = true ↔ x < y + c.toNat) := by
  have hc := Bool.toNat_le c
  have hn : (sub8 (bcd x) (bcd y) c).2.n = true := rfl
  have hz := toNat_bcd (Nat.mod_lt (x + 100 - y - c.toNat) (by decide : 100 > 0))
  rw [daaOf_eq, daaResult, hn, daaHigh_sub8_bcd hx hy, daaLow_sub8_bcd hx hy, toNat_sub8_bcd hx hy]
  refine ⟨BitVec.eq_of_toNat_eq ?_, by simp⟩
  rw [hz, if_pos rfl, BitVec.toNat_ofInt]
  split <;> split <;> omega

end

/-- An operation but CP leaves its result and its flags. -/
theorem aFlags_aluTo {op : AluOp} (h : op ≠ .cp) (s : State) (v : Byte) : (s.aluTo op v).aFlags = alu op s.regs.a v s.flagC := by
  rw [aluTo_of_ne_cp h, State.aFlags, State.flagZ_setFlags, State.flagN_setFlags, State.flagH_setFlags, State.flagC_setFlags]
  rfl

/-- DAA after an operation on a register corrects what the operation put out. -/
theorem exec_daa_after_alu {op : AluOp} (h : op ≠ .cp) (r : Reg8) (s : State) :
    let x := daaOf (alu op s.regs.a (s.reg r) s.flagC)
    ∃ t u, exec (.aluReg op r) s = .next t ∧ exec .daa t = .next u ∧ u.regs.a = x.1 ∧ u.flagC = x.2.c := by
  rw [← aFlags_aluTo h]
  exact ⟨_, _, exec_aluReg op r s, exec_daa _, rfl, State.flagC_setFlags _ _⟩

/-- Settles O23: DAA corrects each digit where the decimal addition carries or the subtraction borrows. -/
theorem daaCorrectsDecimalArithmetic : Obligations.DaaCorrectsDecimalArithmetic := by
  intro s r x y hx hy ha hr
  obtain ⟨t, u, ht, hu, hadd, haddC⟩ := exec_daa_after_alu (op := .adc) (by decide) r s
  obtain ⟨t', u', ht', hu', hsub, hsubC⟩ := exec_daa_after_alu (op := .sbc) (by decide) r s
  rw [ha, hr] at hadd haddC hsub hsubC
  refine ⟨⟨t, u, ht, hu, ?_⟩, t', u', ht', hu', ?_⟩
  · rw [hadd, haddC]
    exact daaOf_add8_bcd hx hy s.flagC
  · rw [hsub, hsubC]
    exact daaOf_sub8_bcd hx hy s.flagC

end Sys2Proof.Machine
end

section
/-! 16-bit arithmetic (spec/43_alu16.md R561 to R563): the sum of two words with its carries, and the operation behind each family of
instructions. -/

namespace Sys2Proof.Machine

/-- ADD HL,rr on the words alone: the sum modulo 2^16, and in H and C the carries out of bits 11 and 15 (R563). -/
theorem addHl_eq (a b : Word) : addHl a b = (a + b, BitVec.carry 12 a b false, BitVec.carry 16 a b false) := by
  have ha := a.isLt
  have hb := b.isLt
  have hres : BitVec.ofNat 16 (a.toNat + b.toNat) = a + b := (BitVec.add_def a b).symm
  simp only [addHl, BitVec.carry, hres, Bool.toNat_false, Prod.mk.injEq, decide_eq_decide, true_and]
  omega

theorem exec_incR16 (rr : Reg16) (s : State) : exec (.incR16 rr) s = stepR16 1 rr s := by
  cases rr <;> rfl

theorem exec_decR16 (rr : Reg16) (s : State) : exec (.decR16 rr) s = stepR16 (-1) rr s := by
  cases rr <;> rfl

theorem exec_addHlR16 (rr : Reg16) (s : State) : exec (.addHlR16 rr) s = addToHl rr s := by
  cases rr <;> rfl

/-- A step by -1 leaves the pair less 1 (R562). -/
theorem stepR16_neg_one (rr : Reg16) (s : State) :
    stepR16 (-1) rr s = .next { s.setReg16 rr (s.reg16 rr - 1) with cycles := 8 } := by
  rw [BitVec.sub_eq_add_neg]
  rfl

/-- ADD HL,rr leaves the sum in HL, and in F the kept Z and the two carries (R563). -/
theorem addToHl_eq (rr : Reg16) (s : State) :
    addToHl rr s = .next { (s.setReg16 .hl (s.hl + s.reg16 rr)).withF s.flagZ false (BitVec.carry 12 s.hl (s.reg16 rr) false)
                             (BitVec.carry 16 s.hl (s.reg16 rr) false) with cycles := 8 } := by
  rw [addToHl, addHl_eq, setFlags_eq_withF]
  rfl

/-- Settles O24: the counters are one write of the pair, and the addition is one of HL with the flags of the sum. -/
theorem arithmetic16 : Obligations.Arithmetic16 := fun s rr =>
  ⟨⟨(encodesAs_incR16 rr).2, (encodesAs_decR16 rr).2, (encodesAs_addHlR16 rr).2⟩, exec_incR16 rr s,
    (exec_decR16 rr s).trans (stepR16_neg_one rr s), (exec_addHlR16 rr s).trans (addToHl_eq rr s)⟩

end Sys2Proof.Machine
end

section
/-! Rotates, shifts and bits (spec/44_rotate_bit.md R600 to R626): the result and the carry of each rotate and the byte each bit operation makes,
the operation behind each family of instructions, and the read and the write of the byte at HL. -/

namespace Sys2Proof.Machine

/-! ### Results and flags -/

theorem getLsbD_bit (c : Bool) (i : Nat) : (bit c).getLsbD i = (decide (i = 0) && c) :=
  BitVec.getLsbD_ofBool c i

/-- The mask SRA keeps bit 7 with (R615). -/
theorem getElem_signMask {i : Nat} (hi : i < 8) : (0x80 : Byte)[i] = decide (i = 7) := by
  decide +revert

/-- The mask SWAP takes the low nibble with (R617). -/
theorem getElem_lowNibbleMask {i : Nat} (hi : i < 8) : (0x0F : Byte)[i] = decide (i < 4) := by
  decide +revert

/-- The byte a rotate or shift makes by masks and shifts, as the rule writes it, has the bits of the old byte in their new places
(R600 to R620). -/
theorem rot_result (op : RotOp) (v : Byte) (c : Bool) : (rot op v c).1 = rotByte op v c := by
  ext i hi
  cases op with
  | rlc | rrc | rl | rr | sla | srl =>
    simp only [rot, rotByte]
    grind [getLsbD_bit]
  | sra =>
    simp only [rot, rotByte]
    grind [getElem_signMask]
  | swap =>
    simp only [rot, rotByte]
    grind [getElem_lowNibbleMask]

/-- The bit a rotate or shift puts in C is the one it moves out of the byte. -/
theorem rot_carry (op : RotOp) (v : Byte) (c : Bool) : (rot op v c).2 = rotCarry op v := by
  cases op with
  | rlc | rl | sla => exact (BitVec.msb_eq_getLsbD_last v).symm
  | rrc | rr | sra | srl => exact Nat.testBit_zero v.toNat
  | swap => rfl

/-- BIT's Z is the complement of the tested bit (R621). -/
theorem bitFlags_eq (v : Byte) (b : Fin 8) (c : Bool) : bitFlags v b c = ⟨v.toNat / 2 ^ b.val % 2 == 0, false, true, c⟩ := by
  have hbit : v.getLsbD b = decide (v.toNat / 2 ^ b.val % 2 = 1) := Nat.testBit_eq_decide_div_mod_eq
  simp only [bitFlags, hbit, ← decide_not, Nat.mod_two_ne_one]
  rfl

theorem getLsbD_one_shiftLeft (b j : Fin 8) : ((1 : Byte) <<< b.val).getLsbD j = decide (j = b) := by
  decide +revert

theorem getLsbD_resBit (b : Fin 8) (v : Byte) (j : Fin 8) : (resBit v b).getLsbD j = if j = b then false else v.getLsbD j := by
  rw [resBit, BitVec.getLsbD_and, BitVec.getLsbD_not, getLsbD_one_shiftLeft]
  by_cases h : j = b <;> simp [h]

theorem getLsbD_setBit (b : Fin 8) (v : Byte) (j : Fin 8) : (setBit v b).getLsbD j = if j = b then true else v.getLsbD j := by
  rw [setBit, BitVec.getLsbD_or, getLsbD_one_shiftLeft]
  by_cases h : j = b <;> simp [h]

/-! ### The operations behind the families of instructions -/

theorem exec_rotReg (op : RotOp) (r : Reg8) (s : State) : exec (.rotReg op r) s = rotOnReg op r s := by
  cases op <;> cases r <;> rfl

theorem exec_rotAtHl (op : RotOp) (s : State) : exec (.rotAtHl op) s = rotOnHl op s := by
  cases op <;> rfl

theorem exec_bitReg (b : Fin 8) (r : Reg8) (s : State) : exec (.bitReg b r) s = bitOnReg b r s := by
  match b with
  | 0 | 1 | 2 | 3 | 4 | 5 | 6 | 7 => cases r <;> rfl

theorem exec_bitAtHl (b : Fin 8) (s : State) : exec (.bitAtHl b) s = bitOnHl b s := by
  match b with
  | 0 | 1 | 2 | 3 | 4 | 5 | 6 | 7 => rfl

theorem exec_resReg (b : Fin 8) (r : Reg8) (s : State) : exec (.resReg b r) s = mapReg (resBit · b) r s := by
  match b with
  | 0 | 1 | 2 | 3 | 4 | 5 | 6 | 7 => cases r <;> rfl

theorem exec_resAtHl (b : Fin 8) (s : State) : exec (.resAtHl b) s = mapAtHl (resBit · b) s := by
  match b with
  | 0 | 1 | 2 | 3 | 4 | 5 | 6 | 7 => rfl

theorem exec_setReg (b : Fin 8) (r : Reg8) (s : State) : exec (.setReg b r) s = mapReg (setBit · b) r s := by
  match b with
  | 0 | 1 | 2 | 3 | 4 | 5 | 6 | 7 => cases r <;> rfl

theorem exec_setAtHl (b : Fin 8) (s : State) : exec (.setAtHl b) s = mapAtHl (setBit · b) s := by
  match b with
  | 0 | 1 | 2 | 3 | 4 | 5 | 6 | 7 => rfl

/-! ### The rotates and shifts -/

/-- The rotate of A leaves Z = N = H = 0 (R600 to R603). -/
theorem rotA_eq (op : RotOp) (s : State) :
    rotA op s = .next { s with regs := { s.regs with a := rotByte op s.regs.a s.flagC
                                                     f := fOf false false false (rotCarry op s.regs.a) }
                               cycles := 4 } := by
  rw [← rot_result, ← rot_carry op s.regs.a s.flagC]
  exact congrArg (State.done · 4) (setFlags_eq_withF (s.setReg .a _) _ _ _ _)

/-- Settles O26: each of the four is the rotate of A. -/
theorem accumulatorRotates : Obligations.AccumulatorRotates := by
  refine ⟨rfl, rfl, rfl, rfl, fun s => ?_⟩
  simp only [List.forall_mem_cons]
  exact ⟨rotA_eq .rlc s, rotA_eq .rrc s, rotA_eq .rl s, rotA_eq .rr s, List.forall_mem_nil _⟩

/-- The flags of a CB rotate or shift, Z from its result (R605). -/
theorem setFlags_rotFlags (op : RotOp) (v : Byte) (c : Bool) (s : State) :
    s.setFlags (rotFlags (rot op v c)) = s.withF (rotByte op v c == 0) false false (rotCarry op v) := by
  rw [← rot_result, ← rot_carry op v c]
  exact setFlags_eq_withF s _ _ _ _

/-- Settles O27: the rotate of the register's byte, with Z from the result. -/
theorem rotateRegister : Obligations.RotateRegister := by
  refine fun op r s => ⟨(encodesAs_rotReg op r).2, (exec_rotReg op r s).trans ?_⟩
  rw [rotOnReg, setFlags_rotFlags, rot_result]
  rfl

/-- An instruction that reads the byte at an address and writes what `f` makes of it there: the answered read is followed by an answered write,
and where the bus does not answer, the read raises. -/
theorem update_outcome {o : Result} {s : State} {a : Word} {f : Byte → Byte} {k : Byte → State → Result}
    (h : o = s.readThen a fun v => s.writeThen a (f v) (k v)) :
    (s.Answers a → ∃ v t, s.memRead a = some v ∧ s.memWrite a (f v) = some t ∧ WriteFrame s t a ∧ o = k v t) ∧
      (¬s.Answers a → o = s.busFault a) := by
  obtain ⟨hread, hraise⟩ := readThen_outcome s a fun v => s.writeThen a (f v) (k v)
  refine ⟨fun ha => ?_, fun hn => h.trans (hraise hn)⟩
  obtain ⟨v, hv, hr⟩ := hread ha
  obtain ⟨t, ht, hframe, hw⟩ := (writeThen_outcome s a (f v) (k v)).1 ha
  exact ⟨v, t, hv, ht, hframe, h.trans (hr.trans hw)⟩

theorem rotOnHl_eq (op : RotOp) (s : State) :
    rotOnHl op s = s.readThen s.hl fun v => s.writeThen s.hl (rotByte op v s.flagC) fun t =>
      .next { t.withF (rotByte op v s.flagC == 0) false false (rotCarry op v) with cycles := 16 } := by
  simp only [rotOnHl, setFlags_rotFlags, rot_result]
  rfl

/-- Settles O28: one read and one write at HL, with the rotate between them. -/
theorem rotateMemory : Obligations.RotateMemory := fun op s =>
  ⟨(encodesAs_rotAtHl op).2, update_outcome ((exec_rotAtHl op s).trans (rotOnHl_eq op s))⟩

/-! ### BIT, RES and SET -/

/-- The end of both forms of BIT (R621, R622). -/
theorem done_bitFlags (v : Byte) (b : Fin 8) (s : State) (n : Nat) :
    (s.setFlags (bitFlags v b s.flagC)).done n =
      .next { s.withF (v.toNat / 2 ^ b.val % 2 == 0) false true s.flagC with cycles := n } := by
  rw [bitFlags_eq, setFlags_eq_withF]
  rfl

theorem bitOnHl_outcome (b : Fin 8) (s : State) :
    (s.Answers s.hl → ∃ v, s.memRead s.hl = some v ∧
      bitOnHl b s = .next { s.withF (v.toNat / 2 ^ b.val % 2 == 0) false true s.flagC with cycles := 12 }) ∧
    (¬s.Answers s.hl → bitOnHl b s = s.busFault s.hl) := by
  simp only [← done_bitFlags]
  exact readThen_outcome s s.hl _

/-- RES and SET, in a register and at HL, with any operation that makes bit `b` of a byte `on` and leaves the others (R623 to R626). -/
theorem putBit_outcome {f : Byte → Byte} {b : Fin 8} {on : Bool} {onReg onHl : Instr} {r : Reg8} {s : State}
    (hf : ∀ (v : Byte) (j : Fin 8), (f v).getLsbD j = if j = b then on else v.getLsbD j)
    (hreg : exec onReg s = mapReg f r s) (hhl : exec onHl s = mapAtHl f s) :
    (∃ v, (∀ j : Fin 8, v.getLsbD j = if j = b then on else (s.reg r).getLsbD j) ∧
      exec onReg s = .next { s.setReg r v with cycles := 8 }) ∧
    (s.Answers s.hl → ∃ u v t, s.memRead s.hl = some u ∧ (∀ j : Fin 8, v.getLsbD j = if j = b then on else u.getLsbD j) ∧
      s.memWrite s.hl v = some t ∧ WriteFrame s t s.hl ∧ exec onHl s = .next { t with cycles := 16 }) ∧
    (¬s.Answers s.hl → exec onHl s = s.busFault s.hl) := by
  obtain ⟨hupdate, hraise⟩ := update_outcome hhl
  refine ⟨⟨f (s.reg r), hf _, hreg⟩, fun ha => ?_, hraise⟩
  obtain ⟨u, t, hu, ht, hframe, he⟩ := hupdate ha
  exact ⟨u, f u, t, hu, hf u, ht, hframe, he⟩

/-- Settles O29: BIT by the flags it makes of the tested byte, RES and SET by the bits of the byte they write. -/
theorem bitTestResetSet : Obligations.BitTestResetSet := by
  intro b r s
  refine ⟨⟨(encodesAs_bitReg b r).2, (encodesAs_bitAtHl b).2⟩, (exec_bitReg b r s).trans (done_bitFlags (s.reg r) b s 8), ?_⟩
  rw [exec_bitAtHl]
  obtain ⟨hbit, hbitRaise⟩ := bitOnHl_outcome b s
  refine ⟨hbit, hbitRaise, fun on => ?_⟩
  cases on with
  | false =>
    exact ⟨(encodesAs_resReg b r).2, (encodesAs_resAtHl b).2,
      putBit_outcome (getLsbD_resBit b) (exec_resReg b r s) (exec_resAtHl b s)⟩
  | true =>
    exact ⟨(encodesAs_setReg b r).2, (encodesAs_setAtHl b).2,
      putBit_outcome (getLsbD_setBit b) (exec_setReg b r s) (exec_setAtHl b s)⟩

end Sys2Proof.Machine
end

section
/-! Control transfer (spec/45_control.md R650 to R661): the operation behind each family of instructions, the two outcomes of a transfer under a
condition, the target of a relative jump, and CALL, RST and the returns by every way their push or pop ends. -/

namespace Sys2Proof.Machine

/-! ### The operations behind the families of instructions -/

theorem exec_jpCond (cc : Cond) (w : Word) (s : State) : exec (.jpCond cc w) s = jumpIf cc w s := by
  cases cc <;> rfl

theorem exec_jrCond (cc : Cond) (e : Byte) (s : State) : exec (.jrCond cc e) s = branchIf cc e s := by
  cases cc <;> rfl

theorem exec_callCond (cc : Cond) (w : Word) (s : State) : exec (.callCond cc w) s = callIf cc w s := by
  cases cc <;> rfl

theorem exec_retCond (cc : Cond) (s : State) : exec (.retCond cc) s = returnIf cc s := by
  cases cc <;> rfl

theorem exec_rst (y : Fin 8) (s : State) : exec (.rst y) s = restart y s := by
  match y with
  | 0 | 1 | 2 | 3 | 4 | 5 | 6 | 7 => rfl

theorem exec_ret (s : State) : exec .ret s = s.pop16Then fun v t => (t.setPc v).done 16 := rfl

theorem exec_reti (s : State) :
    exec .reti s = s.pop16Then fun v t => ({ t.setPc v with ime := true } : State).done 16 := rfl

/-! ### Transfers under a condition -/

/-- What tests cond(cc) goes one way or the other by the byte in F (R650). -/
theorem cond_outcome {o taken skipped : Result} {s : State} {cc : Cond} (h : o = if s.cond cc then taken else skipped) :
    (condOf cc s.regs.f = true → o = taken) ∧ (condOf cc s.regs.f = false → o = skipped) := by
  subst h
  rw [cond_eq_condOf]
  exact ⟨fun hc => if_pos hc, fun hc => if_neg (Bool.eq_false_iff.mp hc)⟩

/-- What holds of all of a list with a last member under a condition. -/
theorem forall_mem_append_ite {α : Type} {p : α → Prop} {l : List α} {c : Bool} {a : α} (hl : ∀ x ∈ l, p x) (ha : c = true → p a) :
    ∀ x ∈ l ++ (if c then [a] else []), p x := by
  refine List.forall_mem_append.mpr ⟨hl, ?_⟩
  cases c with
  | false => exact List.forall_mem_nil p
  | true => exact List.forall_mem_singleton.mpr (ha rfl)

/-! ### JP and JR -/

/-- A relative jump goes to the signed sum modulo 2^16 (R654). -/
theorem branch_eq (s : State) (e : Byte) : s.branch e = s.setPc (BitVec.ofInt 16 (s.regs.pc.toNat + e.toInt)) :=
  congrArg s.setPc (add_sext16_eq_ofInt s.regs.pc e)

/-- Settles O31: a taken jump is one write of PC, and one not taken is none. -/
theorem jumps : Obligations.Jumps := by
  intro s cc w e
  obtain ⟨hjp, hjpSkipped⟩ := cond_outcome (exec_jpCond cc w s)
  obtain ⟨hjr, hjrSkipped⟩ := cond_outcome (exec_jrCond cc e s)
  rw [branch_eq] at hjr
  exact ⟨⟨rfl, (encodesAs_jpCond cc w).2, rfl, rfl, (encodesAs_jrCond cc e).2⟩, rfl, rfl, congrArg (State.done · 12) (branch_eq s e),
    fun hc => ⟨hjp hc, hjr hc⟩, fun hc => ⟨hjpSkipped hc, hjrSkipped hc⟩⟩

/-! ### CALL and RST -/

/-- What is a call pushes PC and goes to its target, or raises where the push does (R656, R801). -/
theorem callTo_outcome {o : Result} {s : State} {w : Word} {n : Nat} (h : o = callTo w n s) :
    (s.Answers (s.regs.sp - 1) → s.Answers (s.regs.sp - 2) → ∃ t, s.Pushes s.regs.pc t ∧ PushFrame s t ∧
      o = .next { t with regs := { t.regs with pc := w }, cycles := n }) ∧
    (¬s.Answers (s.regs.sp - 1) → o = (s.setSp (s.regs.sp - 1)).busFault (s.regs.sp - 1)) ∧
    (∀ t1, (s.setSp (s.regs.sp - 1)).memWrite (s.regs.sp - 1) (s.regs.pc.extractLsb' 8 8) = some t1 →
      ¬t1.Answers (s.regs.sp - 2) → o = (t1.setSp (s.regs.sp - 2)).busFault (s.regs.sp - 2)) := by
  rw [h]
  exact push16Then_outcome s s.regs.pc _

/-- RST y calls 8 * y (R661). -/
theorem restart_eq (y : Fin 8) (s : State) : restart y s = callTo (BitVec.ofNat 16 (8 * y.val)) 16 s := by
  rw [restart, Nat.mul_comm]

/-- Settles O32: each instruction is a call of its target, CALL cc where its condition holds. -/
theorem callsAndRestarts : Obligations.CallsAndRestarts := by
  intro s cc w y
  obtain ⟨hcall, hskipped⟩ := cond_outcome (exec_callCond cc w s)
  refine ⟨⟨rfl, (encodesAs_callCond cc w).2, (encodesAs_rst y).2⟩, hskipped,
    forall_mem_append_ite ?_ fun hc => callTo_outcome (hcall hc)⟩
  simp only [List.forall_mem_cons]
  exact ⟨callTo_outcome rfl, callTo_outcome ((exec_rst y s).trans (restart_eq y s)), List.forall_mem_nil _⟩

/-! ### The returns -/

/-- Settles O33: each instruction is one pop of PC, RET cc where its condition holds; RETI sets IME after it. -/
theorem returns : Obligations.Returns := by
  intro s cc
  obtain ⟨hret, hskipped⟩ := cond_outcome (exec_retCond cc s)
  refine ⟨⟨rfl, (encodesAs_retCond cc).2, rfl⟩, hskipped, fun ha hb => ?_,
    forall_mem_append_ite ?_ fun hc => pop16Then_raises (hret hc)⟩
  · obtain ⟨w, hlo, hhi, hpop⟩ := pop16Then_answered ha hb
    have hw : hiByte w ++ loByte w = w := pair_hiByte_loByte w
    refine ⟨loByte w, hiByte w, hlo, hhi, ?_⟩
    rw [hw]
    exact ⟨(exec_ret s).trans (hpop _), fun hc => (hret hc).trans (hpop _), (exec_reti s).trans (hpop _)⟩
  · simp only [List.forall_mem_cons]
    exact ⟨pop16Then_raises (exec_ret s), pop16Then_raises (exec_reti s), List.forall_mem_nil _⟩

end Sys2Proof.Machine
end

section
/-! What completes (spec/20_memory.md R203, R230): the operations that end in a next state because the bus answers their accesses. PREFIX CB
(spec/44_rotate_bit.md R604, spec/46_system.md R713): the fields of a sub-opcode select the row its cell of the CB map holds. -/

namespace Sys2Proof.Machine

/-! ### Operations whose accesses are answered -/

/-- The result is a next state: neither a fault nor a refusal. -/
def Completes (o : Result) : Prop := ∃ t, o = .next t

theorem completes_readThen {s : State} {a : Word} {k : Byte → Result} (ha : s.Answers a) (hk : ∀ v, Completes (k v)) :
    Completes (s.readThen a k) := by
  obtain ⟨v, -, hv⟩ := (readThen_outcome s a k).1 ha
  exact hv ▸ hk v

theorem completes_writeThen {s : State} {a : Word} {v : Byte} {k : State → Result} (ha : s.Answers a)
    (hk : ∀ t, s.memWrite a v = some t → Completes (k t)) : Completes (s.writeThen a v k) := by
  obtain ⟨t, ht, -, hw⟩ := (writeThen_outcome s a v k).1 ha
  exact hw ▸ hk t ht

/-- A byte replaced in its place: the read and the write have one address. -/
theorem completes_update {s : State} {a : Word} {f : Byte → Byte} {k : Byte → State → Result} (ha : s.Answers a)
    (hk : ∀ v t, Completes (k v t)) : Completes (s.readThen a fun v => s.writeThen a (f v) (k v)) :=
  completes_readThen ha fun v => completes_writeThen ha fun t _ => hk v t

/-! ### PREFIX CB -/

theorem cbInstr_of_encodesAs {i : Instr} {sub : Byte} (h : i.EncodesAs [0xCB, sub]) : cbInstr sub = i := by
  have hd := (encodesAs_cbInstr sub).decode_eq []
  rw [h.decode_eq []] at hd
  cases hd
  rfl

theorem code_rotOfCode (y : BitVec 3) : (rotOfCode y).code = y := by decide +revert

theorem regOfCode_eq_some {z : BitVec 3} {r : Reg8} (h : regOfCode z = some r) : r.code = z := by
  decide +revert

theorem eq_three_of_toNat {x : BitVec 2} (h0 : x.toNat ≠ 0) (h1 : x.toNat ≠ 1) (h2 : x.toNat ≠ 2) : x = 0b11#2 := by
  bv_omega

/-- A sub-opcode is its fields x, y and z (R604). -/
theorem sub_eq_fields (sub : Byte) : sub.extractLsb' 6 2 ++ sub.extractLsb' 3 3 ++ sub.extractLsb' 0 3 = sub := by
  ext i hi
  grind

/-- A row is in the cell its fields x, y and z name (R312). -/
theorem cbInstr_of_fields {i : Instr} {sub : Byte} {x : BitVec 2} {y z : BitVec 3} (h : i.EncodesAs [0xCB, x ++ y ++ z])
    (hx : sub.extractLsb' 6 2 = x) (hy : sub.extractLsb' 3 3 = y) (hz : sub.extractLsb' 0 3 = z) : cbInstr sub = i := by
  subst hx hy hz
  rw [sub_eq_fields] at h
  exact cbInstr_of_encodesAs h

/-- The fields of a sub-opcode select the row in its cell of the CB map (R312, R604). -/
theorem execPrefixCb_eq_exec_cbInstr (sub : Byte) (s : State) : execPrefixCb sub s = exec (cbInstr sub) s := by
  have hop := code_rotOfCode (sub.extractLsb' 3 3)
  have hb : sub.extractLsb' 3 3 = BitVec.ofNat 3 (sub.extractLsb' 3 3).toFin := (BitVec.ofNat_finVal _).symm
  unfold execPrefixCb
  dsimp only
  split
  case h_1 r hx hz =>
    rw [cbInstr_of_fields (encodesAs_rotReg _ r) (BitVec.eq_of_toNat_eq hx) hop.symm (regOfCode_eq_some hz).symm, exec_rotReg]
  case h_2 hx hz =>
    rw [cbInstr_of_fields (encodesAs_rotAtHl _) (BitVec.eq_of_toNat_eq hx) hop.symm (regOfCode_eq_none hz), exec_rotAtHl]
  case h_3 r hx hz =>
    rw [cbInstr_of_fields (encodesAs_bitReg _ r) (BitVec.eq_of_toNat_eq hx) hb (regOfCode_eq_some hz).symm, exec_bitReg]
  case h_4 hx hz =>
    rw [cbInstr_of_fields (encodesAs_bitAtHl _) (BitVec.eq_of_toNat_eq hx) hb (regOfCode_eq_none hz), exec_bitAtHl]
  case h_5 r hx hz =>
    rw [cbInstr_of_fields (encodesAs_resReg _ r) (BitVec.eq_of_toNat_eq hx) hb (regOfCode_eq_some hz).symm, exec_resReg]
  case h_6 hx hz =>
    rw [cbInstr_of_fields (encodesAs_resAtHl _) (BitVec.eq_of_toNat_eq hx) hb (regOfCode_eq_none hz), exec_resAtHl]
  case h_7 r hz h0 h1 h2 =>
    rw [cbInstr_of_fields (encodesAs_setReg _ r) (eq_three_of_toNat h0 h1 h2) hb (regOfCode_eq_some hz).symm, exec_setReg]
  case h_8 hz h0 h1 h2 =>
    rw [cbInstr_of_fields (encodesAs_setAtHl _) (eq_three_of_toNat h0 h1 h2) hb (regOfCode_eq_none hz), exec_setAtHl]

/-- A CB row accesses no address but HL (R604). -/
theorem completes_execPrefixCb (sub : Byte) {s : State} (ha : s.Answers s.hl) : Completes (execPrefixCb sub s) := by
  unfold execPrefixCb
  dsimp only
  split
  case h_1 | h_3 | h_5 | h_7 => exact ⟨_, rfl⟩
  case h_4 => exact completes_readThen ha fun _ => ⟨_, rfl⟩
  case h_2 | h_6 | h_8 => exact completes_update ha fun _ _ => ⟨_, rfl⟩

/-- Settles O30: the row in the sub-opcode's cell of the map is encoded by the two bytes, and the fields select the same row. -/
theorem prefixRunsCbRow : Obligations.PrefixRunsCbRow := fun sub s =>
  have hrow := encodesAs_cbInstr sub
  ⟨cbInstr sub, hrow.decode_eq [], hrow.2, execPrefixCb_eq_exec_cbInstr sub s, completes_execPrefixCb sub⟩

end Sys2Proof.Machine
end

section
/-! The CPU step by the instruction it fetches (spec/46_system.md R700 to R704, R711, R872): the fetch of decoded bytes, the halted step, the
illegal opcodes, and the snapshots a step delivers. The system instructions (R705 to R712). -/

namespace Sys2Proof.Machine

/-! ### The fetch of decoded bytes -/

/-- A fetch that reads an opcode and operand bytes that decode to `i` goes on with `i`, PC past the operand bytes (R700, R703, R713). -/
theorem fetchThen_of_decode {s : State} {op : Byte} {ops : List Byte} {i : Instr} (k : Instr → State → Result)
    (hop : s.memRead s.regs.pc = some op) (hops : s.ReadsAt s.afterOpcodeFetch.regs.pc ops) (hd : decode (op :: ops) = .ok (i, [])) :
    s.fetchThen k = k i (s.afterOpcodeFetch.setPc (s.afterOpcodeFetch.regs.pc + BitVec.ofNat 16 ops.length)) := by
  rw [← readsAt_afterOpcodeFetch] at hops
  unfold State.fetchThen
  rw [readThen_some _ hop]
  generalize s.afterOpcodeFetch = s1 at hops ⊢
  simp only [decode] at hd
  split at hd <;> cases hd
  case h_1 hf => simp [hf]
  case h_2 n hf =>
    rw [readsAt_singleton] at hops
    rw [hf]
    exact imm8Then_of_memRead _ hops
  case h_3 lo hi hf =>
    obtain ⟨hlo, hhi, -⟩ := hops
    rw [hf]
    refine (imm8Then_of_memRead _ hlo).trans ((imm8Then_of_memRead _ hhi).trans ?_)
    exact congrArg (fun pc => k _ (s1.setPc pc)) (BitVec.add_assoc s1.regs.pc 1 1)
  case h_4 sub hf =>
    rw [readsAt_singleton] at hops
    rw [hf]
    exact imm8Then_of_memRead _ hops

/-- The CPU step of a running machine, all fields at once (R700, R702, R711). -/
theorem cpuStep_of_decode {s : State} {op : Byte} {ops : List Byte} {i : Instr} (hh : s.halted = false)
    (hop : s.memRead s.regs.pc = some op) (hops : s.ReadsAt (if s.haltBug then s.regs.pc else s.regs.pc + 1) ops)
    (hd : decode (op :: ops) = .ok (i, [])) :
    s.cpuStep = exec i { s with
      regs := { s.regs with pc := (if s.haltBug then s.regs.pc else s.regs.pc + 1) + BitVec.ofNat 16 ops.length }, haltBug := false
      ime := s.ime || s.imePending, imePending := false, opAddr := s.regs.pc } := by
  rw [← pc_afterOpcodeFetch] at hops
  rw [cpuStep_of_running hh, fetchThen_of_decode exec hop hops hd, afterOpcodeFetch_eq]
  rfl

theorem cpuStep_of_halted {s : State} (h : s.halted = true) : s.cpuStep = .next { s with cycles := 4 } := if_pos h

/-- Settles O6: a halted step is its report alone, and the halt bug leaves PC where the operand bytes are read. -/
theorem haltedStepAndHaltBugFetch : Obligations.HaltedStepAndHaltBugFetch := by
  refine ⟨fun _ => cpuStep_of_halted, fun s op ops i hh hb hop hops hd => ?_⟩
  have hstep := cpuStep_of_decode hh hop (by rwa [hb]) hd
  rwa [hb] at hstep

/-! ### The snapshots due -/

theorem deliver_setInput (s : State) (l : List (Nat × Buttons)) (b : Buttons) :
    State.deliver { s with input := l } b = { s.deliver b with input := l } := by
  unfold State.deliver
  dsimp only
  split <;> rfl

/-- The snapshots delivered are those of the given list, whatever INPUT still holds (R872). -/
theorem deliverDue_setInput (l m : List (Nat × Buttons)) (s : State) :
    State.deliverDue l { s with input := m } = State.deliverDue l s := by
  induction l generalizing s with
  | nil => rfl
  | cons x l ih =>
    unfold State.deliverDue
    rw [deliver_setInput, ih]

theorem applyInput_of_nil {s : State} (h : s.input = []) : s.applyInput = s := by
  rw [State.applyInput, h, State.deliverDue, ← h]

theorem applyInput_of_due {s : State} {n : Nat} {b : Buttons} {rest : List (Nat × Buttons)} (h : s.input = (n, b) :: rest)
    (hn : n ≤ s.iter) : s.applyInput = (State.deliver { s with input := rest } b).applyInput := by
  calc
    s.applyInput = State.deliverDue rest (s.deliver b) := by rw [State.applyInput, h, State.deliverDue, if_pos hn]
    _ = State.applyInput { s.deliver b with input := rest } := (deliverDue_setInput rest rest _).symm
    _ = (State.deliver { s with input := rest } b).applyInput :=
      congrArg State.applyInput (deliver_setInput s rest b).symm

theorem applyInput_of_not_due {s : State} {n : Nat} {b : Buttons} {rest : List (Nat × Buttons)} (h : s.input = (n, b) :: rest)
    (hn : s.iter < n) : s.applyInput = s := by
  rw [State.applyInput, h, State.deliverDue, if_neg (Nat.not_le.mpr hn), ← h]

/-- Settles O5: the first entry of INPUT is delivered or it waits, and the fetch of the decoded bytes leaves PC past them. -/
theorem stepRunsDecoded : Obligations.StepRunsDecoded := by
  refine ⟨fun _ => applyInput_of_nil, fun s n b rest h => ⟨applyInput_of_due h, applyInput_of_not_due h⟩, fun _ => step_of_running, ?_⟩
  intro s bs i hs u hh hb hbs hd
  cases bs with
  | nil => cases hd
  | cons op ops =>
    obtain ⟨hop, hops⟩ := hbs
    have hpc : u.regs.pc + 1 + BitVec.ofNat 16 ops.length = u.regs.pc + BitVec.ofNat 16 (op :: ops).length := by
      rw [List.length_cons, Nat.add_comm, BitVec.ofNat_add]
      exact BitVec.add_assoc _ _ _
    have hstep := cpuStep_of_decode hh hop (by rwa [hb]) hd
    simp only [hb, Bool.false_eq_true, if_false, hpc] at hstep
    rw [step_of_running hs, State.iteration, hstep, hb]

/-! ### The illegal opcodes -/

/-- Each of the eleven is the row in its byte's cell of the opcode map, and has the meaning of an illegal opcode (R310, R320). -/
theorem illegalOpcodes_rows : ∀ x ∈ Instr.illegalOpcodes, formatOf x.2 = .op x.1 ∧ formOf x.1 = .illegal x.2 := by
  intro x hx
  fin_cases hx <;> exact ⟨rfl, rfl⟩

/-- Settles O10: each is the whole instruction in its cell of the map, so the fetch ends with its one byte and its meaning raises. -/
theorem illegalOpcodesRaise : Obligations.IllegalOpcodesRaise := by
  refine ⟨rfl, fun x hx => ?_⟩
  obtain ⟨hformat, hform⟩ := illegalOpcodes_rows x hx
  have hencode := encode_row x.2 0 0
  rw [hformat] at hencode
  have hexec (s : State) : exec x.1 s = illegal x.2 s := by rw [exec_eq_run, hform]; rfl
  refine ⟨hencode, fun s => ⟨hexec s, fun hh hop => ?_⟩⟩
  have hdecode : decode [x.2] = .ok (x.1, []) := by simp [decode, hformat]
  rw [cpuStep_of_decode (ops := []) hh hop trivial hdecode, hexec, List.length_nil, BitVec.add_zero]
  rfl

/-! ### The system instructions -/

/-- The sources are the five low bits of IE and IF (R813). -/
theorem getLsbD_pending (s : State) {i : Nat} (hi : i < 8) :
    s.pending.getLsbD i = (s.ie.getLsbD i && s.iflag.getLsbD i && decide (i < 5)) := by
  have hmask : (0x1F : Byte).getLsbD i = decide (i < 5) := by decide +revert
  rw [State.pending, BitVec.getLsbD_and, BitVec.getLsbD_and, hmask]

theorem pending_eq_zero_iff (s : State) : s.pending = 0 ↔ ¬∃ i : Fin 5, s.ie.getLsbD i = true ∧ s.iflag.getLsbD i = true := by
  refine ⟨fun h0 ⟨i, he, hf⟩ => ?_, fun h => BitVec.eq_of_getLsbD_eq fun i hi => ?_⟩
  · have hbit := getLsbD_pending s (show i.val < 8 by omega)
    simp [h0, he, hf] at hbit
  · rw [getLsbD_pending s hi]
    by_cases h5 : i < 5
    · simpa [h5] using fun he hf => h ⟨⟨i, h5⟩, he, hf⟩
    · simp [h5]

theorem exec_halt (s : State) :
    exec .halt s =
      if s.ime = false ∧ s.pending = 0 then .next { s with haltBug := true, cycles := 4 } else .next { s with halted := true, cycles := 4 } := by
  show execHalt s = _
  simp [execHalt, State.done]

/-- Settles O34: each is its one write and its report, and HALT tests for an interrupt that waits. -/
theorem systemInstructions : Obligations.SystemInstructions := by
  intro s n
  have hp := pending_eq_zero_iff s
  refine ⟨⟨rfl, rfl, rfl, rfl, rfl⟩, rfl, rfl, rfl, rfl, ?_⟩
  rw [exec_halt]
  refine ⟨fun hi hw => if_pos ⟨hi, hp.mpr hw⟩, fun h => if_neg fun ⟨hi, h0⟩ => ?_⟩
  exact h.elim (fun ht => absurd (hi.symm.trans ht) Bool.false_ne_true) (hp.mp h0)

end Sys2Proof.Machine
end

section
/-! The step under OpenBus (spec/20_memory.md R203, spec/46_system.md R704, spec/60_exceptions.md R880): every access is answered, so every form but
the illegal opcodes completes, and so does everything an iteration does after the CPU step. -/

namespace Sys2Proof.Machine

theorem completes_andThen {o : Result} {k : State → Result} (ho : Completes o) (hk : ∀ t, o = .next t → Completes (k t)) :
    Completes (andThen o k) := by
  obtain ⟨t, rfl⟩ := ho
  exact hk t rfl

theorem completes_ite {c : Prop} [Decidable c] {o p : Result} (ho : Completes o) (hp : Completes p) :
    Completes (if c then o else p) := by
  split
  · exact ho
  · exact hp

section
variable {s : State} (hp : s.policy = .openBus)
include hp

/-! ### The instructions -/

theorem completes_push16Then {v : Word} {k : State → Result} (hk : ∀ t, Completes (k t)) : Completes (s.push16Then v k) :=
  completes_writeThen (.inl hp) fun _ hw => completes_writeThen (.inl ((memWrite_policy hw).trans hp)) fun t _ => hk t

theorem completes_pop16Then {k : Word → State → Result} (hk : ∀ v t, Completes (k v t)) : Completes (s.pop16Then k) :=
  completes_readThen (.inl hp) fun _ => completes_readThen (.inl hp) fun _ => hk _ _

/-- Every form but the illegal opcodes completes: the case split over the forms by how they access memory. -/
theorem run_completes (x : Form) (hx : ∀ op, x ≠ .illegal op) : Completes (x.run s) := by
  have answers (a : Word) : s.Answers a := .inl hp
  cases x with
  | loadReg _ _ | loadRegN8 _ _ | loadR16 _ _ | loadSpHl | loadHlSp _ | aluOnReg _ _ | aluOnN8 _ _ | incReg _ | decReg _ | daa | cpl | scf
  | ccf | stepR16 _ _ | addToHl _ | addSp _ | rotA _ | rotOnReg _ _ | bitOnReg _ _ | resBit _ _ | setBit _ _ | jump _ | jumpHl | branch _
  | nop | stop _ | di | ei => exact ⟨_, rfl⟩
  | loadRegAtHl _ | loadAFrom _ _ | loadAHlStep _ | aluOnHl _ | bitOnHl _ => exact completes_readThen (answers _) fun _ => ⟨_, rfl⟩
  | storeRegAtHl _ | storeN8AtHl _ | storeATo _ _ | storeAHlStep _ => exact completes_writeThen (answers _) fun _ _ => ⟨_, rfl⟩
  | incAtHl | decAtHl | rotOnHl _ | resBitAtHl _ | setBitAtHl _ => exact completes_update (answers _) fun _ _ => ⟨_, rfl⟩
  | storeSp a =>
    exact completes_writeThen (answers _) fun _ hw => completes_writeThen (.inl ((memWrite_policy hw).trans hp)) fun _ _ => ⟨_, rfl⟩
  | pushR16 _ | pushAf | callTo _ _ | restart _ => exact completes_push16Then hp fun _ => ⟨_, rfl⟩
  | popR16 _ | popAf | returnTo _ | reti =>
    simp only [Form.run, Machine.popR16, execPopAf, Machine.returnTo, execReti, State.returnFromInterrupt]
    exact completes_pop16Then hp fun _ _ => ⟨_, rfl⟩
  | jumpIf _ _ | branchIf _ _ | halt => exact completes_ite ⟨_, rfl⟩ ⟨_, rfl⟩
  | callIf _ _ => exact completes_ite (completes_push16Then hp fun _ => ⟨_, rfl⟩) ⟨_, rfl⟩
  | returnIf _ => exact completes_ite (completes_pop16Then hp fun _ _ => ⟨_, rfl⟩) ⟨_, rfl⟩
  | prefixCb sub => exact completes_execPrefixCb sub (answers _)
  | illegal op => exact absurd rfl (hx op)

/-! ### The fetch -/

/-- From the byte at `pc` and those from `a` on an instruction is read (R310, R700). -/
theorem exists_decode (pc a : Word) :
    ∃ op ops i, s.memRead pc = some op ∧ s.ReadsAt a ops ∧ decode (op :: ops) = .ok (i, []) := by
  obtain ⟨op, hop⟩ := memRead_openBus s pc hp
  obtain ⟨n, hn⟩ := memRead_openBus s a hp
  obtain ⟨hi, hhi⟩ := memRead_openBus s (a + 1) hp
  cases hf : formatOf op with
  | op i => exact ⟨op, [], i, hop, trivial, by simp [decode, hf]⟩
  | op8 f => exact ⟨op, [n], f n, hop, ⟨hn, trivial⟩, by simp [decode, hf]⟩
  | op16 f => exact ⟨op, [n, hi], f (pair hi n), hop, ⟨hn, hhi, trivial⟩, by simp [decode, hf]⟩
  | cb => exact ⟨op, [n], cbInstr n, hop, ⟨hn, trivial⟩, by simp [decode, hf]⟩

/-! ### The rest of the iteration -/

theorem busRead_ne_none (a : Word) : s.busRead a ≠ none := by
  unfold State.busRead
  rw [hp]
  cases deviceAt a.toNat <;> exact Option.some_ne_none _

theorem dmaBytes_completes (n : Nat) : Completes (State.dmaBytes n s) := by
  induction n generalizing s with
  | zero => exact ⟨_, rfl⟩
  | succ n ih =>
    unfold State.dmaBytes State.dmaByteThen
    dsimp only
    split
    · exact ih hp
    · next h => exact absurd h (busRead_ne_none (by exact hp) _)

theorem unitsUpdate_completes (c : Nat) : Completes (s.unitsUpdate c) := by
  have hu : ((s.ppuUpdate c).timerUpdate c).policy = .openBus := by
    rw [timerUpdate_eq, ppuUpdate_eq]
    exact hp
  refine completes_ite (dmaBytes_completes ?_ _) ⟨_, rfl⟩
  exact hu

theorem handleInterrupts_completes : Completes s.handleInterrupts := by
  unfold State.handleInterrupts
  split
  · exact ⟨_, rfl⟩
  · refine completes_ite (completes_push16Then ?_ ?_) ⟨_, rfl⟩
    · exact hp
    · exact fun _ => ⟨_, rfl⟩

end

theorem Touches.policy_eq {s t : State} (h : Touches s t) : t.policy = s.policy := by rw [h.frame.2]

theorem policy_unitsUpdate {s t : State} {c : Nat} (h : s.unitsUpdate c = .next t) : t.policy = s.policy := by
  rw [(unitsUpdate_next h).1]

theorem policy_handleInterrupts {s t : State} (h : s.handleInterrupts = .next t) : t.policy = s.policy := by
  refine Ensures.next (P := fun t => t.policy = s.policy) ?_ h
  unfold State.handleInterrupts
  split
  · rfl
  · exact ensures_ite (fun _ => ensures_push16Then fun u hu => hu.policy_eq) fun _ => rfl

theorem policy_exec {i : Instr} {s t : State} (h : exec i s = .next t) : t.policy = s.policy := by
  obtain ⟨u, n, hu, -, rfl⟩ := exec_does h
  cases hu with
  | plain ht | flags ht _ | control ht _ _ _ _ => exact ht.policy_eq

theorem afterStep_completes {s : State} (hp : s.policy = .openBus) : Completes s.afterStep := by
  refine completes_andThen (unitsUpdate_completes hp _) fun s2 h2 => ?_
  have hp2 := (policy_unitsUpdate h2).trans hp
  refine completes_andThen (handleInterrupts_completes hp2) fun s3 h3 => ?_
  have hp3 := (policy_handleInterrupts h3).trans hp2
  exact completes_ite (completes_andThen (unitsUpdate_completes hp3 _) fun _ _ => ⟨_, rfl⟩) ⟨_, rfl⟩

/-! ### The step -/

/-- Only the eleven have the meaning of an illegal opcode (R320, R704). -/
theorem mem_illegalOpcodes_of_formOf {i : Instr} {op : Byte} (h : formOf i = .illegal op) : (i, op) ∈ Instr.illegalOpcodes := by
  cases i <;> cases h <;> decide

theorem exec_openBus {i : Instr} {s : State} (hp : s.policy = .openBus) (hi : ∀ op, formOf i ≠ .illegal op) :
    ∃ t, exec i s = .next t ∧ t.policy = .openBus := by
  obtain ⟨t, ht⟩ := run_completes hp (formOf i) hi
  rw [← exec_eq_run] at ht
  exact ⟨t, ht, (policy_exec ht).trans hp⟩

/-- Under OpenBus a CPU step completes with OpenBus kept, or it fetches an illegal opcode. -/
theorem cpuStep_openBus {s : State} (hp : s.policy = .openBus) :
    (∃ t, s.cpuStep = .next t ∧ t.policy = .openBus) ∨
      ∃ x ∈ Instr.illegalOpcodes, s.halted = false ∧ s.memRead s.regs.pc = some x.2 := by
  cases hh : s.halted with
  | true => exact .inl ⟨_, cpuStep_of_halted hh, hp⟩
  | false =>
    obtain ⟨op, ops, i, hop, hops, hd⟩ := exists_decode hp s.regs.pc (if s.haltBug then s.regs.pc else s.regs.pc + 1)
    by_cases hi : ∃ b, formOf i = .illegal b
    · obtain ⟨b, hb⟩ := hi
      have hx := mem_illegalOpcodes_of_formOf hb
      have hbytes := (encodeOfDecode _ _ _ hd).2
      rw [(illegalOpcodesRaise.2 _ hx).1] at hbytes
      exact .inr ⟨(i, b), hx, rfl, by rw [hop, (List.cons.inj hbytes).1]⟩
    · rw [cpuStep_of_decode hh hop hops hd]
      refine .inl (exec_openBus ?_ fun b hb => hi ⟨b, hb⟩)
      exact hp

/-- Settles O9: under OpenBus the CPU step completes or raises at an illegal opcode, and all that follows it completes. -/
theorem openBusStopsAtIllegalOpcodesOnly : Obligations.OpenBusStopsAtIllegalOpcodesOnly := by
  intro s hp hs
  have hu : s.applyInput.policy = .openBus ∧ s.applyInput.regs = s.regs ∧ s.applyInput.halted = s.halted := by
    rw [applyInput_eq]
    exact ⟨hp, rfl, rfl⟩
  obtain ⟨hpolicy, hregs, hhalted⟩ := hu
  rw [step_of_running hs, State.iteration]
  obtain ⟨t, ht, hpt⟩ | ⟨x, hx, hh, hop⟩ := cpuStep_openBus hpolicy
  · rw [ht]
    exact .inl (afterStep_completes hpt)
  · rw [((illegalOpcodesRaise.2 x hx).2 _).2 hh hop, hregs]
    rw [hregs] at hop
    exact .inr ⟨x.2, _, rfl, hhalted ▸ hh, hop, illegalOpcodesRaise.1 ▸ List.mem_map_of_mem hx⟩

end Sys2Proof.Machine
end

section
/-! The order of an iteration (spec/60_exceptions.md R800, R801, R880, R881): the parts before its end leave the iteration number and FRAME_ACC, and
the end counts both. -/

namespace Sys2Proof.Machine

/-- The fields an iteration counts in at its end. -/
def State.SameCounters (s t : State) : Prop := t.iter = s.iter ∧ t.frameAcc = s.frameAcc

theorem State.SameCounters.trans {s t u : State} (h : s.SameCounters t) (h' : t.SameCounters u) : s.SameCounters u :=
  ⟨h'.1.trans h.1, h'.2.trans h.2⟩

theorem Touches.sameCounters {s t : State} (h : Touches s t) : s.SameCounters t := by
  rw [h.frame.2]
  exact ⟨rfl, rfl⟩

theorem Form.Does.sameCounters {x : Form} {s t : State} (h : x.Does s t) : s.SameCounters t := by
  obtain ⟨u, n, hu, -, rfl⟩ := h
  cases hu with
  | plain ht | flags ht _ | control ht _ _ _ _ => exact ht.sameCounters

theorem sameCounters_cpuStep {s t : State} (h : s.cpuStep = .next t) : s.SameCounters t := by
  refine Ensures.next (P := s.SameCounters) ?_ h
  refine ensures_ite (fun _ => ⟨rfl, rfl⟩) fun _ => ensures_fetchThen fun i pc => ?_
  rw [exec_eq_run, afterOpcodeFetch_eq]
  refine (run_ensures (formOf i) (cyclesBounded_formOf i) _).mono fun t ht => ?_
  exact ht.sameCounters

theorem sameCounters_unitsUpdate {s t : State} {c : Nat} (h : s.unitsUpdate c = .next t) : s.SameCounters t := by
  rw [(unitsUpdate_next h).1]
  exact ⟨rfl, rfl⟩

theorem sameCounters_handleInterrupts {s t : State} (h : s.handleInterrupts = .next t) : s.SameCounters t := by
  refine Ensures.next (P := s.SameCounters) ?_ h
  unfold State.handleInterrupts
  split
  · exact ⟨rfl, rfl⟩
  · exact ensures_ite (fun _ => ensures_push16Then fun u hu => hu.sameCounters) fun _ => ⟨rfl, rfl⟩

/-- The end of an iteration: its number and cycles, and FRAME_ACC with at most one frame's cycles taken out (R881). -/
theorem closeIteration_spec (s : State) (n : Nat) :
    s.closeIteration n = { s with frameAcc := (s.closeIteration n).frameAcc, iter := s.iter + 1, cycles := n } ∧
      ((s.closeIteration n).frameAcc = s.frameAcc + n ∧ (s.closeIteration n).frameAcc < 70224 ∨
        (s.closeIteration n).frameAcc + 70224 = s.frameAcc + n) := by
  refine ⟨rfl, ?_⟩
  unfold State.closeIteration Config.cyclesPerFrame
  dsimp only
  split <;> omega

/-- Settles O7: an iteration is its parts one after the other, a raise ends it, and no part but its end counts. -/
theorem iterationOrder : Obligations.IterationOrder := by
  refine ⟨fun s f h => ?_, fun s s1 f h h2 => ?_, fun s s1 s2 f h h2 h3 => ?_, fun s s1 s2 s3 f h h2 h3 hc h4 => ?_,
    fun s s1 s2 s3 h h2 h3 => ?_⟩
  all_goals rw [State.iteration, h]
  · rfl
  all_goals
    change s1.unitsUpdate s1.cycles = _ at h2
    rw [andThen_of_next, State.afterStep, h2]
  · rfl
  all_goals rw [andThen_of_next, h3]
  · rfl
  · change s3.unitsUpdate s3.cycles = _ at h4
    rw [andThen_of_next, if_pos hc, h4]
    rfl
  have hs3 := ((sameCounters_cpuStep h).trans (sameCounters_unitsUpdate h2)).trans (sameCounters_handleInterrupts h3)
  refine ⟨fun hc => ⟨s3.closeIteration s1.cycles, ?_, ?_⟩, fun s4 hc h4 => ⟨s4.closeIteration (s1.cycles + s3.cycles), ?_, ?_⟩⟩
  · rw [andThen_of_next, if_neg (by omega)]
  · obtain ⟨hiter, hframe⟩ := hs3
    rw [← hiter, ← hframe]
    exact closeIteration_spec s3 _
  · change s3.unitsUpdate s3.cycles = _ at h4
    rw [andThen_of_next, if_pos hc, h4]
    rfl
  · obtain ⟨hiter, hframe⟩ := hs3.trans (sameCounters_unitsUpdate h4)
    rw [← hiter, ← hframe, Nat.add_assoc]
    exact closeIteration_spec s4 _

end Sys2Proof.Machine
end

section
/-! The interrupt handling (spec/60_exceptions.md R811, R813, R819, R820, R821): the source it takes, and the push of its dispatch. -/

namespace Sys2Proof.Machine

/-- A source is pending exactly where its bits of IE and IF are set (R813). -/
theorem pending_source (s : State) (x : Source) :
    s.pending.getLsbD x.index = (s.ie.getLsbD x.index && s.iflag.getLsbD x.index) := by
  have hx : x.index < 5 := by cases x <;> decide
  rw [getLsbD_pending s (by omega), decide_eq_true hx, Bool.and_true]

theorem exists_source_of_bit (i : Fin 5) : ∃ x : Source, x.index = i.val := by
  fin_cases i
  exacts [⟨.vblank, rfl⟩, ⟨.stat, rfl⟩, ⟨.timer, rfl⟩, ⟨.serial, rfl⟩, ⟨.joypad, rfl⟩]

theorem firstPending_eq_none {s : State} (h : ∀ x : Source, s.pending.getLsbD x.index = false) : s.firstPending = none := by
  simp [State.firstPending, h]

/-- Dispatch takes the pending source of the lowest number (R811). -/
theorem firstPending_eq_some {s : State} {x : Source} (hx : s.pending.getLsbD x.index = true)
    (hlow : ∀ y : Source, y.index < x.index → s.pending.getLsbD y.index = false) : s.firstPending = some x := by
  cases x <;> simp (disch := decide) only [State.firstPending, List.find?_cons, hx, hlow]

theorem vector_eq (x : Source) : x.vector = BitVec.ofNat 16 (0x40 + 8 * x.index) := by
  cases x <;> rfl

theorem mask_eq_twoPow (x : Source) : x.mask = BitVec.twoPow 8 x.index := by
  cases x <;> decide

/-- Every way a dispatch ends: by its push of PC, with the halt ended before it (R820, R821). -/
theorem takeInterrupt_outcome (s : State) (x : Source) :
    let s0 : State := { s with halted := false }
    (s.Answers (s.regs.sp - 1) → s.Answers (s.regs.sp - 2) → ∃ t, s0.Pushes s.regs.pc t ∧ PushFrame s0 t ∧
      s.takeInterrupt x =
        .next { t with regs := { t.regs with pc := x.vector }, ime := false, iflag := t.iflag &&& ~~~x.mask
                       cycles := if s.halted then 20 else 16 }) ∧
    (¬s.Answers (s.regs.sp - 1) → s.takeInterrupt x = (s0.setSp (s.regs.sp - 1)).busFault (s.regs.sp - 1)) ∧
    (∀ t1, (s0.setSp (s.regs.sp - 1)).memWrite (s.regs.sp - 1) (hiByte s.regs.pc) = some t1 → ¬t1.Answers (s.regs.sp - 2) →
      s.takeInterrupt x = (t1.setSp (s.regs.sp - 2)).busFault (s.regs.sp - 2)) := by
  intro s0
  unfold State.takeInterrupt
  exact push16Then_outcome s0 s.regs.pc _

/-- Settles O35: with no source pending nothing is done, and the lowest one pending is dispatched by one push of PC. -/
theorem interruptDispatch : Obligations.InterruptDispatch := by
  intro s
  refine ⟨fun h => ?_, fun i he hf hlow => ?_⟩
  · have hnone : s.firstPending = none := firstPending_eq_none fun x => by
      have hx : x.index < 5 := by cases x <;> decide
      rw [pending_source]
      exact h ⟨x.index, hx⟩
    rw [State.handleInterrupts, hnone]
    rfl
  · obtain ⟨x, hx⟩ := exists_source_of_bit i
    have hsome : s.firstPending = some x := by
      refine firstPending_eq_some ?_ fun y hy => ?_
      · rw [pending_source, hx, he, hf]
        rfl
      · rw [pending_source]
        exact hlow ⟨y.index, by omega⟩ (show y.index < i.val by omega)
    rw [State.handleInterrupts, hsome]
    refine ⟨fun hi => if_neg (by simp [hi]), fun hi => ?_⟩
    · simp only [if_pos hi, ← hx, ← vector_eq, ← mask_eq_twoPow]
      exact takeInterrupt_outcome s x

end Sys2Proof.Machine
end

section
/-! The cycle counts (spec/70_reset_and_hazards.md R920): what every form reports, by one case split over the forms. -/

namespace Sys2Proof.Machine

/-- A count of cycles an instruction can report (R920). -/
abbrev CycleCount (n : Nat) : Prop := n % 4 = 0 ∧ 4 ≤ n ∧ n ≤ 24

/-- The cycle count a form carries, where it carries one, is an instruction's. -/
def Form.cyclesCounted (x : Form) : Bool :=
  match x with
  | .loadAFrom _ n | .storeATo _ n | .callTo _ n | .returnTo n => decide (CycleCount n)
  | _ => true

theorem cyclesCounted_formOf (i : Instr) : (formOf i).cyclesCounted = true := by
  cases i <;> rfl

def State.Reports (s : State) : Prop := CycleCount s.cycles

theorem reports_done {s : State} {n : Nat} (h : CycleCount n) : Ensures (s.done n) State.Reports := h

theorem reports_store {s : State} {a : Word} {v : Byte} {k : State → State} {n : Nat} (h : CycleCount n) :
    Ensures (s.writeThen a v fun t => (k t).done n) State.Reports :=
  ensures_writeThen fun _ _ => reports_done h

theorem reports_load {s : State} {a : Word} {k : Byte → State} {n : Nat} (h : CycleCount n) :
    Ensures (s.readThen a fun v => (k v).done n) State.Reports :=
  ensures_readThen fun _ => reports_done h

theorem reports_update {s : State} {a : Word} {f : Byte → Byte} {k : Byte → State → State} {n : Nat} (h : CycleCount n) :
    Ensures (s.readThen a fun v => s.writeThen a (f v) fun t => (k v t).done n) State.Reports :=
  ensures_readThen fun _ => reports_store h

theorem reports_push {s : State} {v : Word} {k : State → State} {n : Nat} (h : CycleCount n) :
    Ensures (s.push16Then v fun t => (k t).done n) State.Reports :=
  ensures_push16Then fun _ _ => reports_done h

theorem reports_pop {s : State} {k : Word → State → State} {n : Nat} (h : CycleCount n) :
    Ensures (s.pop16Then fun v t => (k v t).done n) State.Reports :=
  ensures_pop16Then fun _ _ => reports_done h

theorem reports_returnTo (s : State) {n : Nat} (h : CycleCount n) : Ensures (returnTo n s) State.Reports :=
  reports_pop h

/-- PREFIX CB reports the cycles of the row it runs (R713). -/
theorem reports_execPrefixCb (sub : Byte) (s : State) : Ensures (execPrefixCb sub s) State.Reports := by
  unfold execPrefixCb
  dsimp only
  split
  · exact reports_done (by decide)
  · exact reports_update (by decide)
  · exact reports_done (by decide)
  · exact reports_load (by decide)
  · exact reports_done (by decide)
  · exact reports_update (by decide)
  · exact reports_done (by decide)
  · exact reports_update (by decide)

/-- What every form reports: the case split over the forms by how they access memory. -/
theorem run_reports (x : Form) (hx : x.cyclesCounted = true) (s : State) : Ensures (x.run s) State.Reports := by
  cases x with
  | loadReg _ _ | loadRegN8 _ _ | loadR16 _ _ | loadSpHl | loadHlSp _ | aluOnReg _ _ | aluOnN8 _ _ | incReg _ | decReg _ | daa | cpl | scf
  | ccf | stepR16 _ _ | addToHl _ | addSp _ | rotA _ | rotOnReg _ _ | bitOnReg _ _ | resBit _ _ | setBit _ _ | jump _ | jumpHl | branch _
  | nop | stop _ | di | ei => exact reports_done (by decide)
  | loadRegAtHl _ | loadAHlStep _ | aluOnHl _ | bitOnHl _ => exact reports_load (by decide)
  | loadAFrom _ _ => exact reports_load (of_decide_eq_true hx)
  | storeRegAtHl _ | storeN8AtHl _ | storeAHlStep _ => exact reports_store (by decide)
  | storeATo _ _ => exact reports_store (of_decide_eq_true hx)
  | storeSp _ => exact ensures_writeThen fun _ _ => reports_store (by decide)
  | incAtHl | decAtHl | rotOnHl _ | resBitAtHl _ | setBitAtHl _ => exact reports_update (by decide)
  | pushR16 _ | pushAf | restart _ => exact reports_push (by decide)
  | callTo _ _ => exact reports_push (of_decide_eq_true hx)
  | popR16 _ | popAf | reti =>
    simp only [Form.run, Machine.popR16, execPopAf, execReti, State.returnFromInterrupt]
    exact reports_pop (by decide)
  | returnTo n => exact reports_returnTo s (of_decide_eq_true hx)
  | jumpIf _ _ | branchIf _ _ | halt => exact ensures_ite (fun _ => reports_done (by decide)) fun _ => reports_done (by decide)
  | callIf _ _ => exact ensures_ite (fun _ => reports_push (by decide)) fun _ => reports_done (by decide)
  | returnIf _ => exact ensures_ite (fun _ => reports_returnTo s (by decide)) fun _ => reports_done (by decide)
  | prefixCb sub => exact reports_execPrefixCb sub s
  | illegal op => exact ensures_raise s _ _

/-- Settles O38, by what the instruction's form reports. -/
theorem cycleCountsAreFours : Obligations.CycleCountsAreFours := fun i s _ h =>
  (run_reports (formOf i) (cyclesCounted_formOf i) s).next (exec_eq_run i s ▸ h)

end Sys2Proof.Machine
end

section
/-! The timer (spec/60_exceptions.md R831 to R834): its update as some TIMA increments and a write of DIV and the accumulators, which do not depend on
one another. -/

namespace Sys2Proof.Machine

/-! ### The rule's period and enable -/

theorem tacPeriod_eq (tac : Byte) : tacPeriod tac = if tac.toNat % 4 = 0 then 256 else 4 ^ (tac.toNat % 4) := by
  have h : ∀ k < 4, [256, 4, 16, 64].getD k 256 = if k = 0 then 256 else 4 ^ k := by decide
  rw [tacPeriod, BitVec.extractLsb'_toNat, Nat.shiftRight_zero]
  exact h _ (Nat.mod_lt _ (by decide))

theorem enabled_iff (t : Timer) : t.enabled = true ↔ t.tac.toNat / 4 % 2 = 1 := by
  rw [Timer.enabled, BitVec.getLsbD, Nat.testBit_eq_decide_div_mod_eq, decide_eq_true_iff]

/-! ### DIV and the accumulators apart from TIMA -/

/-- DIV and the two accumulators written; TIMA, TMA, TAC and everything outside the timer stay. -/
def State.setTimerAccs (s : State) (div : Byte) (divAcc timaAcc : Nat) : State :=
  { s with timer := { s.timer with div := div, divAcc := divAcc, timaAcc := timaAcc } }

theorem timaTick_setTimerAccs (s : State) (div : Byte) (divAcc timaAcc : Nat) :
    (s.setTimerAccs div divAcc timaAcc).timaTick = s.timaTick.setTimerAccs div divAcc timaAcc := by
  rw [State.timaTick, State.timaTick, apply_ite fun u : State => u.setTimerAccs div divAcc timaAcc]
  rfl

/-- TIMA's increments do not read DIV or the accumulators. -/
theorem timaTicks_setTimerAccs (n : Nat) (s : State) (div : Byte) (divAcc timaAcc : Nat) :
    State.timaTicks n (s.setTimerAccs div divAcc timaAcc) = (State.timaTicks n s).setTimerAccs div divAcc timaAcc := by
  induction n generalizing s with
  | zero => rfl
  | succ n ih => rw [State.timaTicks, timaTick_setTimerAccs, ih, State.timaTicks]

theorem timaTicks_add (m n : Nat) (s : State) : State.timaTicks (m + n) s = State.timaTicks n (State.timaTicks m s) := by
  induction m generalizing s with
  | zero => rw [Nat.zero_add, State.timaTicks]
  | succ m ih => rw [Nat.succ_add, State.timaTicks, ih, State.timaTicks]

/-- TAC stays through TIMA's increments. -/
theorem tac_timaTicks (n : Nat) (s : State) : (State.timaTicks n s).timer.tac = s.timer.tac := by
  rw [timaTicks_eq]

/-! ### The update -/

theorem timerUpdate_of_enabled {s : State} (h : s.timer.enabled = true) (c : Nat) :
    s.timerUpdate c = (State.timaTicks ((s.timer.timaAcc + c) / tacPeriod s.timer.tac) s).setTimerAccs
      (s.timer.div + BitVec.ofNat 8 ((s.timer.divAcc + c) / 256)) ((s.timer.divAcc + c) % 256)
      ((s.timer.timaAcc + c) % tacPeriod s.timer.tac) := by
  rw [← timaTicks_setTimerAccs]
  exact if_pos h

theorem timerUpdate_of_disabled {s : State} (h : ¬s.timer.enabled = true) (c : Nat) :
    s.timerUpdate c = s.setTimerAccs (s.timer.div + BitVec.ofNat 8 ((s.timer.divAcc + c) / 256)) ((s.timer.divAcc + c) % 256)
      s.timer.timaAcc :=
  if_neg h

/-- What two updates take out of an accumulator is what one by their sum takes. -/
theorem div_add_mod_add_div (x b : Nat) {p : Nat} (hp : 0 < p) : x / p + (x % p + b) / p = (x + b) / p := by
  have hx : x + b = x % p + b + p * (x / p) := by
    have := Nat.mod_add_div x p
    omega
  rw [hx, Nat.add_mul_div_left _ _ hp, Nat.add_comm]

theorem div_advance (div : Byte) (x b : Nat) :
    div + BitVec.ofNat 8 (x / 256) + BitVec.ofNat 8 ((x % 256 + b) / 256) = div + BitVec.ofNat 8 ((x + b) / 256) := by
  rw [BitVec.add_assoc, ← BitVec.ofNat_add, div_add_mod_add_div x b (by decide)]

/-- Two updates are one by their sum (R831). -/
theorem timerUpdate_add (s : State) (a b : Nat) : s.timerUpdate (a + b) = (s.timerUpdate a).timerUpdate b := by
  by_cases h : s.timer.enabled = true
  · obtain ⟨hp, -⟩ := tacPeriod_pos_le s.timer.tac
    have htac (m : Nat) (d : Byte) (e f : Nat) : ((State.timaTicks m s).setTimerAccs d e f).timer.tac = s.timer.tac := tac_timaTicks m s
    have hon (m : Nat) (d : Byte) (e f : Nat) : ((State.timaTicks m s).setTimerAccs d e f).timer.enabled = true := by
      rw [Timer.enabled, htac]
      exact h
    rw [timerUpdate_of_enabled h, timerUpdate_of_enabled h, timerUpdate_of_enabled (hon _ _ _ _), timaTicks_setTimerAccs, htac,
      ← timaTicks_add]
    simp only [State.setTimerAccs, div_advance, Nat.mod_add_mod, div_add_mod_add_div _ _ hp, Nat.add_assoc]
  · have hoff (d : Byte) (e f : Nat) : ¬(s.setTimerAccs d e f).timer.enabled = true := h
    rw [timerUpdate_of_disabled h, timerUpdate_of_disabled h, timerUpdate_of_disabled (hoff _ _ _)]
    simp only [State.setTimerAccs, div_advance, Nat.mod_add_mod, Nat.add_assoc]

theorem timaTick_eq_ite (s : State) :
    s.timaTick = if s.timer.tima = 0xFF then { s with timer := { s.timer with tima := s.timer.tma }, iflag := s.iflag ||| 0x04 }
      else { s with timer := { s.timer with tima := s.timer.tima + 1 } } := rfl

theorem timerUpdate_timaAcc {s : State} (h : s.timer.enabled = true) (c : Nat) :
    (s.timerUpdate c).timer.timaAcc = (s.timer.timaAcc + c) % tacPeriod s.timer.tac := by
  rw [timerUpdate_of_enabled h]
  rfl

/-- A TIMA increment, with some cycles taken out of TIMA_ACC for it. -/
def State.timaTickTaking (s : State) (p : Nat) : State :=
  { s.timaTick with timer := { s.timaTick.timer with timaAcc := s.timer.timaAcc - p } }

theorem timaTickTaking_eq (s : State) (p : Nat) :
    s.timaTickTaking p = s.timaTick.setTimerAccs s.timer.div s.timer.divAcc (s.timer.timaAcc - p) := by
  unfold State.timaTickTaking State.timaTick
  split <;> rfl

theorem tac_timaTick (s : State) : s.timaTick.timer.tac = s.timer.tac := tac_timaTicks 1 s

/-- A full TIMA_ACC gives up a period for one increment before the update goes on (R833). -/
theorem timerUpdate_of_full {s : State} (h : s.timer.enabled = true) (hacc : tacPeriod s.timer.tac ≤ s.timer.timaAcc) (c : Nat) :
    s.timerUpdate c = (s.timaTickTaking (tacPeriod s.timer.tac)).timerUpdate c := by
  obtain ⟨hp, -⟩ := tacPeriod_pos_le s.timer.tac
  have htac : (s.timaTickTaking (tacPeriod s.timer.tac)).timer.tac = s.timer.tac := by
    rw [timaTickTaking_eq]
    exact tac_timaTick s
  have hon : (s.timaTickTaking (tacPeriod s.timer.tac)).timer.enabled = true := by
    rw [Timer.enabled, htac]
    exact h
  have hsum : s.timer.timaAcc + c = s.timer.timaAcc - tacPeriod s.timer.tac + c + tacPeriod s.timer.tac := by omega
  rw [timerUpdate_of_enabled h, timerUpdate_of_enabled hon, htac, timaTickTaking_eq, timaTicks_setTimerAccs, hsum, Nat.add_div_right _ hp,
    Nat.add_mod_right]
  rfl

/-- One cycle of an enabled timer makes one TIMA increment where it completes the period, and none before. -/
theorem timerUpdate_one_of_enabled {s : State} (h : s.timer.enabled = true) :
    (s.timer.timaAcc + 1 < tacPeriod s.timer.tac → (s.timerUpdate 1).timer.tima = s.timer.tima ∧
      (s.timerUpdate 1).timer.timaAcc = s.timer.timaAcc + 1 ∧ (s.timerUpdate 1).iflag = s.iflag) ∧
    (s.timer.timaAcc + 1 = tacPeriod s.timer.tac → (s.timerUpdate 1).timer.tima = s.timaTick.timer.tima ∧
      (s.timerUpdate 1).timer.timaAcc = 0 ∧ (s.timerUpdate 1).iflag = s.timaTick.iflag) := by
  obtain ⟨hp, -⟩ := tacPeriod_pos_le s.timer.tac
  rw [timerUpdate_of_enabled h]
  refine ⟨fun hlt => ?_, fun heq => ?_⟩
  · rw [Nat.div_eq_of_lt hlt, Nat.mod_eq_of_lt hlt]
    exact ⟨rfl, rfl, rfl⟩
  · rw [heq, Nat.div_self hp, Nat.mod_self]
    exact ⟨rfl, rfl, rfl⟩

/-- One cycle of DIV, whether or not the timer is enabled (R832). -/
theorem div_timerUpdate (s : State) (c : Nat) :
    (s.timerUpdate c).timer.div = s.timer.div + BitVec.ofNat 8 ((s.timer.divAcc + c) / 256) ∧
      (s.timerUpdate c).timer.divAcc = (s.timer.divAcc + c) % 256 := by
  by_cases h : s.timer.enabled = true
  · rw [timerUpdate_of_enabled h]
    exact ⟨rfl, rfl⟩
  · rw [timerUpdate_of_disabled h]
    exact ⟨rfl, rfl⟩

theorem tma_tac_timerUpdate (s : State) (c : Nat) :
    (s.timerUpdate c).timer.tma = s.timer.tma ∧ (s.timerUpdate c).timer.tac = s.timer.tac := by
  by_cases h : s.timer.enabled = true
  · rw [timerUpdate_of_enabled h, timaTicks_eq]
    exact ⟨rfl, rfl⟩
  · rw [timerUpdate_of_disabled h]
    exact ⟨rfl, rfl⟩

/-- Settles O48: TIMA's increments are counted by the quotient and the remainder of TIMA_ACC, and so are DIV's. -/
theorem timerAdvancesByCycles : Obligations.TimerAdvancesByCycles := by
  refine ⟨timerUpdate_add, ?_⟩
  intro s p on
  have hp : p = tacPeriod s.timer.tac := (tacPeriod_eq s.timer.tac).symm
  have hon : on ↔ s.timer.enabled = true := (enabled_iff s.timer).symm
  refine ⟨fun c h hacc => ?_, fun hd => ?_⟩
  · rw [hp] at hacc ⊢
    exact ⟨timerUpdate_of_full (hon.mp h) hacc c, timerUpdate_timaAcc (hon.mp h) c⟩
  obtain ⟨hdiv, hdivAcc⟩ := div_timerUpdate s 1
  obtain ⟨htma, htac⟩ := tma_tac_timerUpdate s 1
  refine ⟨by rw [← timerUpdate_eq], htma, htac, fun hlt => ?_, fun heq => ?_, fun hoff => ?_, fun h hlt => ?_, fun h heq => ?_⟩
  · rw [hdiv, hdivAcc, Nat.div_eq_of_lt (by omega), Nat.mod_eq_of_lt (by omega)]
    exact ⟨BitVec.add_zero _, rfl⟩
  · rw [hdiv, hdivAcc, heq]
    exact ⟨rfl, rfl⟩
  · rw [timerUpdate_of_disabled (mt hon.mpr hoff)]
    exact ⟨rfl, rfl, rfl⟩
  · exact (timerUpdate_one_of_enabled (hon.mp h)).1 (hp ▸ hlt)
  · obtain ⟨htima, hacc, hi⟩ := (timerUpdate_one_of_enabled (hon.mp h)).2 (heq.trans hp)
    rw [htima, hi, timaTick_eq_ite]
    exact ⟨hacc, fun hne => by rw [if_neg hne]; exact ⟨rfl, rfl⟩, fun he => by rw [if_pos he]; exact ⟨rfl, rfl⟩⟩

end Sys2Proof.Machine
end

section
/-! The joypad (spec/60_exceptions.md R870, R871): the bits of P1 and of the two groups, and when a snapshot requests. -/

namespace Sys2Proof.Machine

/-- Four buttons as a nibble, bit 3 first: both groups are one (R870). -/
def nibbleOf (b3 b2 b1 b0 : Bool) : BitVec 4 := bit b3 ++ bit b2 ++ bit b1 ++ bit b0

theorem buttonNibble_eq (b : Buttons) : b.buttonNibble = nibbleOf b.start b.select b.b b.a := rfl

theorem directionNibble_eq (b : Buttons) : b.directionNibble = nibbleOf b.down b.up b.left b.right := rfl

theorem getLsbD_nibbleOf (b3 b2 b1 b0 : Bool) :
    (nibbleOf b3 b2 b1 b0).getLsbD 0 = b0 ∧ (nibbleOf b3 b2 b1 b0).getLsbD 1 = b1 ∧ (nibbleOf b3 b2 b1 b0).getLsbD 2 = b2 ∧
      (nibbleOf b3 b2 b1 b0).getLsbD 3 = b3 := by
  decide +revert

/-- A button of a group goes from released to pressed. -/
theorem nibbleOf_edge (o3 o2 o1 o0 b3 b2 b1 b0 : Bool) :
    (nibbleOf b3 b2 b1 b0 &&& ~~~nibbleOf o3 o2 o1 o0 != 0) = true ↔
      (o0 = false ∧ b0 = true) ∨ (o1 = false ∧ b1 = true) ∨ (o2 = false ∧ b2 = true) ∨ (o3 = false ∧ b3 = true) := by
  decide +revert

/-- A low bit of P1 is 0 exactly where a selected group has its button pressed (R870). -/
theorem read_bit (j : Joypad) {k : Nat} (hk : k < 4) :
    j.read.getLsbD k = false ↔ (j.sel.getLsbD 1 = false ∧ j.buttons.buttonNibble.getLsbD k = true) ∨
      (j.sel.getLsbD 0 = false ∧ j.buttons.directionNibble.getLsbD k = true) := by
  have hF : (0xF#4).getLsbD k = true := by decide +revert
  unfold Joypad.read Joypad.buttonsSelected Joypad.directionsSelected
  rw [BitVec.getLsbD_append, if_pos hk]
  cases j.sel.getLsbD 1 <;> cases j.sel.getLsbD 0 <;> simp [hF, hk, or_iff_not_imp_left]

theorem read_high (j : Joypad) : j.read.extractLsb' 6 2 = 3 ∧ j.read.extractLsb' 4 2 = j.sel := by
  have h (sel : BitVec 2) (lo : BitVec 4) :
      (0b11#2 ++ sel ++ lo : Byte).extractLsb' 6 2 = 3 ∧ (0b11#2 ++ sel ++ lo : Byte).extractLsb' 4 2 = sel := by decide +revert
  exact h j.sel _

theorem newlyPressed_iff (j : Joypad) (b : Buttons) :
    j.newlyPressed b = true ↔
      (j.sel.getLsbD 1 = false ∧ (b.buttonNibble &&& ~~~j.buttons.buttonNibble != 0) = true) ∨
      (j.sel.getLsbD 0 = false ∧ (b.directionNibble &&& ~~~j.buttons.directionNibble != 0) = true) := by
  rw [Joypad.newlyPressed, Bool.or_eq_true, Bool.and_eq_true, Bool.and_eq_true, Joypad.buttonsSelected, Joypad.directionsSelected,
    Bool.not_eq_true', Bool.not_eq_true']

theorem deliver_of_newlyPressed {s : State} {b : Buttons} (h : s.joypad.newlyPressed b = true) :
    s.deliver b = { s with joypad := { s.joypad with buttons := b }, iflag := s.iflag ||| 0x10 } := by
  unfold State.deliver
  rw [if_pos h]
  rfl

theorem deliver_of_not_newlyPressed {s : State} {b : Buttons} (h : ¬s.joypad.newlyPressed b = true) :
    s.deliver b = { s with joypad := { s.joypad with buttons := b } } := by
  unfold State.deliver
  rw [if_neg h]

/-- Settles O49: by the bits of the two groups' nibbles, and the edges between the old and the new. -/
theorem joypadReadsAndRequests : Obligations.JoypadReadsAndRequests := by
  intro s b p1 buttons directions o
  obtain ⟨b0, b1, b2, b3⟩ := getLsbD_nibbleOf o.start o.select o.b o.a
  obtain ⟨d0, d1, d2, d3⟩ := getLsbD_nibbleOf o.down o.up o.left o.right
  have bits {k : Nat} (hk : k < 4) := read_bit s.joypad hk
  obtain ⟨h6, h4⟩ := read_high s.joypad
  refine ⟨rfl, ⟨h6, h4, ?_, ?_, ?_, ?_⟩, ?_⟩
  · exact b0 ▸ d0 ▸ bits (k := 0) (by decide)
  · exact b1 ▸ d1 ▸ bits (k := 1) (by decide)
  · exact b2 ▸ d2 ▸ bits (k := 2) (by decide)
  · exact b3 ▸ d3 ▸ bits (k := 3) (by decide)
  · intro edge
    have hedge : s.joypad.newlyPressed b = true ↔ edge := by
      rw [newlyPressed_iff, buttonNibble_eq, buttonNibble_eq, directionNibble_eq, directionNibble_eq, nibbleOf_edge, nibbleOf_edge]
    rw [← hedge]
    exact ⟨deliver_of_newlyPressed, deliver_of_not_newlyPressed⟩

end Sys2Proof.Machine
end

section
/-! The STAT line (spec/60_exceptions.md R843, R844): the fields of the STAT register, and the condition of the line on them. -/

namespace Sys2Proof.Machine

/-- The bits of STAT as it is read (R209, R843). -/
theorem stat_bits (p : Ppu) :
    p.stat.extractLsb' 0 2 = p.mode.code ∧ p.stat.getLsbD 2 = p.coinc ∧ ∀ k < 5, p.stat.getLsbD (k + 3) = p.statHi.getLsbD k := by
  have h (hi : BitVec 5) (c : Bool) (m : BitVec 2) : (hi ++ bit c ++ m : Byte).extractLsb' 0 2 = m ∧
      (hi ++ bit c ++ m : Byte).getLsbD 2 = c ∧ ∀ k < 5, (hi ++ bit c ++ m : Byte).getLsbD (k + 3) = hi.getLsbD k := by decide +revert
  exact h p.statHi p.coinc p.mode.code

/-- The line is the OR of the four enabled conditions of STAT (R844). -/
theorem statCondition_iff (p : Ppu) (coinc : Bool) :
    p.statCondition coinc = true ↔ (p.mode = .hblank ∧ p.stat.getLsbD 3 = true) ∨ (p.mode = .vblank ∧ p.stat.getLsbD 4 = true) ∨
      (p.mode = .oamScan ∧ p.stat.getLsbD 5 = true) ∨ (coinc = true ∧ p.stat.getLsbD 6 = true) := by
  obtain ⟨-, -, hi⟩ := stat_bits p
  rw [hi 0 (by decide), hi 1 (by decide), hi 2 (by decide), hi 3 (by decide)]
  simp [Ppu.statCondition, or_assoc]

theorem evalStat_coinc_iff (s : State) : s.evalStat.ppu.coinc = true ↔ s.ppu.ly = s.ppu.lyc := beq_iff_eq

/-- The request comes with a rising edge of the line (R844). -/
theorem evalStat_iflag_eq (s : State) :
    s.evalStat.iflag = if s.evalStat.ppu.statLine = true ∧ s.ppu.statLine = false then s.iflag ||| 0x02 else s.iflag := by
  rw [State.evalStat]
  cases s.ppu.statLine with
  | true => simp
  | false =>
    simp only [Bool.not_false, Bool.and_true, and_true]
    rfl

/-- Settles O50: by the fields of STAT, and the edge of the line. -/
theorem statLineIsEdgeTriggered : Obligations.StatLineIsEdgeTriggered := by
  intro s enabled line t
  obtain ⟨hmode, hcoinc, -⟩ := stat_bits s.ppu
  have hline : t.ppu.statLine = true ↔ line := (statCondition_iff _ _).trans (by rw [beq_iff_eq])
  refine ⟨hmode, hcoinc, evalStat_coinc_iff s, hline, fun h => ?_, fun h => ?_, evalStat_eq s⟩
  · exact (evalStat_iflag_eq s).trans (if_pos ⟨hline.mpr h.1, h.2⟩)
  · refine (evalStat_iflag_eq s).trans (if_neg fun ⟨hl, hs⟩ => h.elim (fun hn => hn (hline.mp hl)) fun ht => ?_)
    exact Bool.false_ne_true (hs.symm.trans ht)

end Sys2Proof.Machine
end

section
/-! The mode machine across updates (spec/60_exceptions.md R841, R849): leftover dots commute with a transition, so the loop's turns are counted by the
dots alone, and two updates are one by their sum. -/

namespace Sys2Proof.Machine

/-! ### One transition -/

theorem length_ge (m : PpuMode) : 80 ≤ m.length := by
  cases m <;> decide

/-- What a transition does before it enters the next mode, and that mode (R841). -/
def State.transition (s : State) : State × PpuMode :=
  let s1 := s.setLy (s.ppu.ly + 1)
  match s.ppu.mode with
  | .oamScan => (s, .draw)
  | .draw => (s.compose, .hblank)
  | .hblank => if s1.ppu.ly.toNat ≥ 144 then (s1.request .vblank, .vblank) else (s1, .oamScan)
  | .vblank => if s1.ppu.ly.toNat ≥ 154 then ((s1.setLy 0).present, .oamScan) else (s1, .vblank)

/-- A transition enters the next mode and evaluates the STAT line once, after it (R841). -/
theorem leaveMode_eq_transition (s : State) : s.leaveMode = (s.transition.1.enterMode s.transition.2).evalStat := by
  unfold State.leaveMode State.transition
  cases s.ppu.mode with
  | oamScan | draw => rfl
  | hblank | vblank =>
    dsimp only
    split <;> rfl

theorem ppu_transition (s : State) : s.transition.1.ppu = { s.ppu with ly := s.transition.1.ppu.ly, fb := s.transition.1.ppu.fb } := by
  unfold State.transition
  cases s.ppu.mode with
  | oamScan | draw => rfl
  | hblank | vblank =>
    dsimp only
    split <;> rfl

/-- What a transition does does not depend on the dots. -/
theorem transition_addDots (s : State) (b : Nat) : (s.addDots b).transition = (s.transition.1.addDots b, s.transition.2) := by
  have hmode : (s.addDots b).ppu.mode = s.ppu.mode := rfl
  unfold State.transition
  rw [hmode]
  cases s.ppu.mode with
  | oamScan | draw => rfl
  | hblank | vblank =>
    dsimp only
    split
    · next h => rw [if_pos (by exact h)]; rfl
    · next h => rw [if_neg (by exact h)]; rfl

theorem lcd_leaveMode (s : State) :
    s.leaveMode.ppu.lcdc = s.ppu.lcdc ∧ s.leaveMode.ppu.lcdWasOff = s.ppu.lcdWasOff ∧
      s.leaveMode.ppu.dots = s.ppu.dots - s.ppu.mode.length := by
  rw [leaveMode_eq_transition, evalStat_eq, State.enterMode, ppu_transition]
  exact ⟨rfl, rfl, rfl⟩

/-- Dots beyond the mode's stay through its transition (R841). -/
theorem leaveMode_addDots {s : State} (h : s.ppu.mode.length ≤ s.ppu.dots) (b : Nat) : (s.addDots b).leaveMode = s.leaveMode.addDots b := by
  have hdots : s.transition.1.ppu.dots + b - s.transition.1.ppu.mode.length = s.transition.1.ppu.dots - s.transition.1.ppu.mode.length + b := by
    rw [ppu_transition]
    dsimp only
    omega
  rw [leaveMode_eq_transition, leaveMode_eq_transition, transition_addDots]
  generalize s.transition = x at hdots ⊢
  have henter : (x.1.addDots b).enterMode x.2 = (x.1.enterMode x.2).addDots b := by
    simp only [State.enterMode, State.addDots, hdots]
  rw [henter]
  rfl

/-! ### The loop -/

theorem ppuLoop_of_lt {s : State} (h : s.ppu.dots < s.ppu.mode.length) (n : Nat) : s.ppuLoop n = s := by
  cases n with
  | zero => rfl
  | succ n => exact if_neg (Nat.not_le.mpr h)

theorem ppuLoop_of_ge {s : State} (h : s.ppu.mode.length ≤ s.ppu.dots) (n : Nat) : s.ppuLoop (n + 1) = s.leaveMode.ppuLoop n := if_pos h

theorem lcd_ppuLoop (n : Nat) (s : State) :
    (s.ppuLoop n).ppu.lcdc = s.ppu.lcdc ∧ (s.ppuLoop n).ppu.lcdWasOff = s.ppu.lcdWasOff := by
  induction n generalizing s with
  | zero => exact ⟨rfl, rfl⟩
  | succ n ih =>
    by_cases h : s.ppu.mode.length ≤ s.ppu.dots
    · obtain ⟨hlcdc, hoff, -⟩ := lcd_leaveMode s
      rw [ppuLoop_of_ge h, ← hlcdc, ← hoff]
      exact ih s.leaveMode
    · rw [ppuLoop_of_lt (Nat.not_le.mp h)]
      exact ⟨rfl, rfl⟩

/-- A transition leaves fewer turns for the loop by one. -/
theorem leaveMode_dots_lt {s : State} {b n : Nat} (hm : s.ppu.mode.length ≤ s.ppu.dots) (h : s.ppu.dots + b < 80 * (n + 1)) :
    s.leaveMode.ppu.dots + b < 80 * n := by
  obtain ⟨-, -, hdots⟩ := lcd_leaveMode s
  have := length_ge s.ppu.mode
  omega

/-- With turns for the dots, their number does not matter. -/
theorem ppuLoop_turns {n k : Nat} {s : State} (hn : s.ppu.dots < 80 * n) (hk : s.ppu.dots < 80 * k) : s.ppuLoop n = s.ppuLoop k := by
  induction n generalizing s k with
  | zero => omega
  | succ n ih =>
    obtain ⟨k, rfl⟩ : ∃ j, k = j + 1 := ⟨k - 1, by omega⟩
    by_cases h : s.ppu.mode.length ≤ s.ppu.dots
    · rw [ppuLoop_of_ge h, ppuLoop_of_ge h]
      exact ih (leaveMode_dots_lt (b := 0) h hn) (leaveMode_dots_lt (b := 0) h hk)
    · rw [ppuLoop_of_lt (Nat.not_le.mp h), ppuLoop_of_lt (Nat.not_le.mp h)]

/-- Dots added before the loop or after some turns of it: the loop ends in the same state. -/
theorem ppuLoop_addDots (m : Nat) {s : State} {b n k : Nat} (hn : s.ppu.dots + b < 80 * n) (hk : s.ppu.dots + b < 80 * k) :
    (s.addDots b).ppuLoop n = ((s.ppuLoop m).addDots b).ppuLoop k := by
  induction m generalizing s n with
  | zero => exact ppuLoop_turns hn hk
  | succ m ih =>
    by_cases h : s.ppu.mode.length ≤ s.ppu.dots
    · obtain ⟨n, rfl⟩ : ∃ j, n = j + 1 := ⟨n - 1, by omega⟩
      have hge : (s.addDots b).ppu.mode.length ≤ (s.addDots b).ppu.dots := Nat.le_add_right_of_le h
      obtain ⟨-, -, hdots⟩ := lcd_leaveMode s
      rw [ppuLoop_of_ge hge, leaveMode_addDots h, ppuLoop_of_ge h]
      exact ih (leaveMode_dots_lt h hn) (by omega)
    · rw [ppuLoop_of_lt (Nat.not_le.mp h)]
      exact ppuLoop_turns hn hk

theorem ppuLoop_dots_le (n : Nat) (s : State) : (s.ppuLoop n).ppu.dots ≤ s.ppu.dots := by
  induction n generalizing s with
  | zero => exact Nat.le_refl _
  | succ n ih =>
    by_cases h : s.ppu.mode.length ≤ s.ppu.dots
    · obtain ⟨-, -, hdots⟩ := lcd_leaveMode s
      have := ih s.leaveMode
      rw [ppuLoop_of_ge h]
      omega
    · rw [ppuLoop_of_lt (Nat.not_le.mp h)]

/-! ### The update -/

theorem lcdRestart_of_known {s : State} (h : s.ppu.lcdWasOff = false) : s.lcdRestart = s := by
  simp [State.lcdRestart, h]

theorem lcdRestart_of_wasOff {s : State} (h : s.ppu.lcdWasOff = true) :
    s.lcdRestart = State.evalStat { s with ppu := { s.ppu with lcdWasOff := false, mode := .oamScan, dots := 0 } } := if_pos h

/-- The LCD is on, and its restart is done. -/
def Ppu.Running (p : Ppu) : Prop := p.lcdOn = true ∧ p.lcdWasOff = false

theorem Ppu.Running.of_lcd_eq {p q : Ppu} (h : p.Running) (hlcdc : q.lcdc = p.lcdc) (hoff : q.lcdWasOff = p.lcdWasOff) : q.Running := by
  unfold Ppu.Running Ppu.lcdOn at h ⊢
  rwa [hlcdc, hoff]

theorem running_lcdRestart {s : State} (h : s.ppu.lcdOn = true) : s.lcdRestart.ppu.Running := by
  cases hw : s.ppu.lcdWasOff with
  | true => rw [lcdRestart_of_wasOff hw]; exact ⟨h, rfl⟩
  | false => rw [lcdRestart_of_known hw]; exact ⟨h, hw⟩

theorem ppuUpdate_of_off {s : State} (h : ¬s.ppu.lcdOn = true) (c : Nat) : s.ppuUpdate c = s.lcdOff := if_neg h

theorem ppuUpdate_of_running {s : State} (h : s.ppu.Running) {c n : Nat} (hn : s.ppu.dots + c < 80 * n) :
    s.ppuUpdate c = (s.addDots c).ppuLoop n := by
  rw [State.ppuUpdate, if_pos h.1, lcdRestart_of_known h.2]
  exact ppuLoop_turns (Nat.lt_mul_div_succ _ (by decide)) hn

/-- An update with the LCD on goes on from the restart, where there is one (R841). -/
theorem ppuUpdate_lcdRestart {s : State} (h : s.ppu.lcdOn = true) (c : Nat) : s.ppuUpdate c = s.lcdRestart.ppuUpdate c := by
  obtain ⟨hon, hoff⟩ := running_lcdRestart h
  rw [State.ppuUpdate, State.ppuUpdate, if_pos h, if_pos hon, lcdRestart_of_known hoff]

theorem ppuUpdate_add_of_running {s : State} (h : s.ppu.Running) (a b : Nat) : s.ppuUpdate (a + b) = (s.ppuUpdate a).ppuUpdate b := by
  have ha : s.ppuUpdate a = (s.addDots a).ppuLoop (s.ppu.dots + a + b + 1) := ppuUpdate_of_running h (by omega)
  have hlcd := lcd_ppuLoop (s.ppu.dots + a + b + 1) (s.addDots a)
  have hdots : (s.ppuUpdate a).ppu.dots ≤ s.ppu.dots + a := ha ▸ ppuLoop_dots_le _ (s.addDots a)
  have hrun : (s.ppuUpdate a).ppu.Running := h.of_lcd_eq (ha ▸ hlcd.1) (ha ▸ hlcd.2)
  have hn : s.ppu.dots + a + b < 80 * (s.ppu.dots + a + b + 1) := by omega
  calc
    s.ppuUpdate (a + b) = ((s.addDots a).addDots b).ppuLoop (s.ppu.dots + a + b + 1) := by
      rw [ppuUpdate_of_running h (n := s.ppu.dots + a + b + 1) (by omega)]
      simp only [State.addDots, Nat.add_assoc]
    _ = ((s.ppuUpdate a).addDots b).ppuLoop (s.ppu.dots + a + b + 1) := ha ▸ ppuLoop_addDots _ hn hn
    _ = (s.ppuUpdate a).ppuUpdate b := (ppuUpdate_of_running hrun (by omega)).symm

/-- Two updates are one by their sum (R841, R849). -/
theorem ppuUpdate_add (s : State) (a b : Nat) : s.ppuUpdate (a + b) = (s.ppuUpdate a).ppuUpdate b := by
  by_cases h : s.ppu.lcdOn = true
  · rw [ppuUpdate_lcdRestart h, ppuUpdate_lcdRestart h a]
    exact ppuUpdate_add_of_running (running_lcdRestart h) a b
  · have hoff : ¬s.lcdOff.ppu.lcdOn = true := h
    rw [ppuUpdate_of_off h, ppuUpdate_of_off h, ppuUpdate_of_off hoff]
    rfl

theorem ppuUpdate_of_lt {s : State} (h : s.ppu.Running) {c : Nat} (hc : s.ppu.dots + c < s.ppu.mode.length) : s.ppuUpdate c = s.addDots c := by
  rw [ppuUpdate_of_running h (n := s.ppu.dots + c + 1) (by omega)]
  exact ppuLoop_of_lt hc _

/-- An update that ends a mode exactly is its transition (R841). -/
theorem ppuUpdate_of_eq {s : State} (h : s.ppu.Running) {c : Nat} (hc : s.ppu.dots + c = s.ppu.mode.length) :
    s.ppuUpdate c = (s.addDots c).leaveMode := by
  obtain ⟨-, -, hdots⟩ := lcd_leaveMode (s.addDots c)
  have hzero : (s.addDots c).leaveMode.ppu.dots = 0 := hdots.trans (Nat.sub_eq_zero_of_le hc.le)
  have := length_ge (s.addDots c).leaveMode.ppu.mode
  rw [ppuUpdate_of_running h (n := s.ppu.dots + c + 1) (by omega), ppuLoop_of_ge (by exact hc.ge), ppuLoop_of_lt (by omega)]

/-! ### The transitions as the rule writes them -/

theorem transition_of_oamScan {s : State} (h : s.ppu.mode = .oamScan) : s.transition = (s, .draw) := by
  simp [State.transition, h]

theorem transition_of_draw {s : State} (h : s.ppu.mode = .draw) : s.transition = (s.compose, .hblank) := by
  simp [State.transition, h]

theorem transition_of_hblank {s : State} (h : s.ppu.mode = .hblank) :
    (s.ppu.ly.toNat < 143 → s.transition = (s.setLy (s.ppu.ly + 1), .oamScan)) ∧
      (s.ppu.ly = 143 → s.transition = ((s.setLy 144).request .vblank, .vblank)) := by
  unfold State.transition
  rw [h]
  refine ⟨fun hl => if_neg ?_, fun hl => ?_⟩
  · show ¬(s.ppu.ly + 1).toNat ≥ 144
    bv_omega
  · rw [hl]
    rfl

theorem transition_of_vblank {s : State} (h : s.ppu.mode = .vblank) :
    (s.ppu.ly.toNat < 153 → s.transition = (s.setLy (s.ppu.ly + 1), .vblank)) ∧
      (s.ppu.ly = 153 → s.transition = ((s.setLy 0).present, .oamScan)) := by
  unfold State.transition
  rw [h]
  refine ⟨fun hl => if_neg ?_, fun hl => ?_⟩
  · show ¬(s.ppu.ly + 1).toNat ≥ 154
    bv_omega
  · rw [hl]
    rfl

/-- The next mode at dot 0. -/
def State.enterAt (s : State) (m : PpuMode) : State := { s with ppu := { s.ppu with mode := m, dots := 0 } }

/-- An update that ends a mode exactly enters the next at dot 0 and evaluates the STAT line once (R841). -/
theorem ppuUpdate_eq_transition {s : State} (h : s.ppu.Running) {c : Nat} (hc : s.ppu.dots + c = s.ppu.mode.length) :
    s.ppuUpdate c = (s.transition.1.enterAt s.transition.2).evalStat := by
  have hdots : s.transition.1.ppu.dots + c - s.transition.1.ppu.mode.length = 0 := by
    rw [ppu_transition]
    exact Nat.sub_eq_zero_of_le hc.le
  rw [ppuUpdate_of_eq h hc, leaveMode_eq_transition, transition_addDots]
  simp only [State.enterMode, State.addDots, hdots, State.enterAt]

theorem lcdOn_iff (p : Ppu) : p.lcdOn = true ↔ p.lcdc.toNat ≥ 128 := by
  rw [Ppu.lcdOn, ← BitVec.msb_eq_getLsbD_last (w := 8), BitVec.msb_eq_decide, decide_eq_true_iff]

/-- Settles O51: leftover dots commute with a transition, and an update that ends a mode exactly is its one transition. -/
theorem ppuModeMachine : Obligations.PpuModeMachine := by
  refine ⟨ppuUpdate_add, ?_⟩
  intro s c hlcd hoff len enter ly
  have hrun : s.ppu.Running := ⟨(lcdOn_iff _).mpr hlcd, hoff⟩
  have hlen : len = s.ppu.mode.length := by
    show (match s.ppu.mode with | .oamScan => 80 | .draw => 172 | .hblank => 204 | .vblank => 456) = _
    cases s.ppu.mode <;> rfl
  rw [hlen]
  refine ⟨ppuUpdate_of_lt hrun, fun hc => ?_⟩
  rw [ppuUpdate_eq_transition hrun hc]
  refine ⟨fun hm => ?_, fun hm => ?_, fun hm hl => ?_, fun hm hl => ?_, fun hm hl => ?_, fun hm hl => ?_⟩
  · rw [transition_of_oamScan hm]; rfl
  · rw [transition_of_draw hm]; rfl
  · rw [(transition_of_hblank hm).1 hl]; rfl
  · rw [(transition_of_hblank hm).2 hl]; rfl
  · rw [(transition_of_vblank hm).1 hl]; rfl
  · rw [(transition_of_vblank hm).2 hl]; rfl

/-! ### The LCD off -/

theorem blankFrame_eq : blankFrame = Vector.ofFn fun _ => Vector.ofFn fun _ => 0 := by
  unfold blankFrame
  ext j hj k hk
  simp

/-- Settles O53: the update with the LCD off, and the restart before the first with the LCD on. -/
theorem lcdOffFreezesThePpu : Obligations.LcdOffFreezesThePpu := by
  refine fun s c => ⟨fun hoff => ?_, fun hon hw => ?_⟩
  · rw [← blankFrame_eq]
    exact ppuUpdate_of_off (ne_true_of_eq_false hoff) c
  · rw [ppuUpdate_lcdRestart hon, lcdRestart_of_wasOff hw]

end Sys2Proof.Machine
end

section
/-! A frame (spec/60_exceptions.md R842, R847): 144 lines of three modes and ten of VBlank, each 456 dots, from one beginning of a mode to the next. -/

namespace Sys2Proof.Machine

/-- A mode begins on a line of a running PPU, with these frames presented so far; in VBlank it has been requested. -/
structure State.Begins (s : State) (m : PpuMode) (line : Nat) (frames : List Frame) : Prop where
  running : s.ppu.Running
  mode : s.ppu.mode = m
  dots : s.ppu.dots = 0
  ly : s.ppu.ly = BitVec.ofNat 8 line
  presented : s.presented = frames
  requested : m = .vblank → s.iflag.getLsbD 0 = true

/-- An evaluation of the STAT line leaves the request of VBlank. -/
theorem vblank_evalStat (s : State) : s.evalStat.iflag.getLsbD 0 = s.iflag.getLsbD 0 := by
  obtain h | h := evalStat_iflag s <;> simp [h]

/-- A whole mode of an update leads to the beginning of the next. -/
theorem begins_of_transition {s u : State} {m m' : PpuMode} {line line' : Nat} {frames frames' : List Frame} (h : s.Begins m line frames)
    (ht : s.transition = (u, m')) (hly : u.ppu.ly = BitVec.ofNat 8 line') (hp : u.presented = frames')
    (hr : m' = .vblank → u.iflag.getLsbD 0 = true) : (s.ppuUpdate m.length).Begins m' line' frames' := by
  have hlcd : s.transition.1.ppu.lcdc = s.ppu.lcdc ∧ s.transition.1.ppu.lcdWasOff = s.ppu.lcdWasOff := by
    rw [ppu_transition]
    exact ⟨rfl, rfl⟩
  have hupdate := ppuUpdate_eq_transition h.running (c := m.length) (by rw [h.dots, h.mode, Nat.zero_add])
  rw [ht] at hlcd hupdate
  rw [hupdate]
  exact ⟨h.running.of_lcd_eq hlcd.1 hlcd.2, rfl, rfl, hly, hp, fun hv => (vblank_evalStat _).trans (hr hv)⟩

section
variable {s : State} {line : Nat} {frames : List Frame}

/-! ### One line -/

/-- Modes 2 and 3 of a line. -/
theorem begins_hblank (h : s.Begins .oamScan line frames) : (s.ppuUpdate 252).Begins .hblank line frames := by
  have hdraw : (s.ppuUpdate 80).Begins .draw line frames :=
    begins_of_transition h (transition_of_oamScan h.mode) h.ly h.presented nofun
  rw [ppuUpdate_add s 80 172]
  exact begins_of_transition hdraw (transition_of_draw hdraw.mode) hdraw.ly hdraw.presented nofun

theorem begins_next_visible (h : s.Begins .oamScan line frames) (hl : line < 143) :
    (s.ppuUpdate 456).Begins .oamScan (line + 1) frames := by
  have hblank := begins_hblank h
  have hly : (s.ppuUpdate 252).ppu.ly.toNat < 143 := by
    rw [hblank.ly, BitVec.toNat_ofNat]
    omega
  rw [ppuUpdate_add s 252 204]
  refine begins_of_transition hblank ((transition_of_hblank hblank.mode).1 hly) ?_ hblank.presented nofun
  rw [BitVec.ofNat_add, ← hblank.ly]
  rfl

/-- The last visible line ends in VBlank, which is requested (R847). -/
theorem begins_vblank (h : s.Begins .oamScan 143 frames) : (s.ppuUpdate 456).Begins .vblank 144 frames := by
  have hblank := begins_hblank h
  rw [ppuUpdate_add s 252 204]
  refine begins_of_transition hblank ((transition_of_hblank hblank.mode).2 hblank.ly) rfl hblank.presented fun _ => ?_
  rw [State.iflag_request, BitVec.getLsbD_or]
  simp [Source.mask, Source.index]

theorem begins_next_vblank (h : s.Begins .vblank line frames) (hl : line < 153) : (s.ppuUpdate 456).Begins .vblank (line + 1) frames := by
  have hly : s.ppu.ly.toNat < 153 := by
    rw [h.ly, BitVec.toNat_ofNat]
    omega
  refine begins_of_transition h ((transition_of_vblank h.mode).1 hly) ?_ h.presented fun _ => h.requested rfl
  rw [BitVec.ofNat_add, ← h.ly]
  rfl

/-- The last line of VBlank presents FB as it stands (R848). -/
theorem begins_frame (h : s.Begins .vblank 153 frames) :
    (s.ppuUpdate 456).Begins .oamScan 0 ((s.ppuUpdate 456).ppu.fb :: frames) ∧ (s.ppuUpdate 456).iflag.getLsbD 0 = true := by
  have ht := (transition_of_vblank h.mode).2 h.ly
  have hupdate := ppuUpdate_eq_transition h.running (c := 456) (by rw [h.dots, h.mode]; rfl)
  rw [ht] at hupdate
  have hfb : (s.ppuUpdate 456).ppu.fb = s.ppu.fb := (congrArg (fun u : State => u.ppu.fb) hupdate).trans rfl
  refine ⟨begins_of_transition h ht rfl ?_ nofun, ?_⟩
  · rw [hfb, ← h.presented]
    rfl
  · rw [hupdate]
    exact (vblank_evalStat _).trans (h.requested rfl)

/-! ### Many lines -/

theorem ppuUpdate_zero {m : PpuMode} (h : s.Begins m line frames) : s.ppuUpdate 0 = s := by
  have := length_ge s.ppu.mode
  have hdots := h.dots
  exact ppuUpdate_of_lt h.running (c := 0) (by omega)

theorem begins_visible_lines (h : s.Begins .oamScan 0 frames) (n : Nat) (hn : n ≤ 143) :
    (s.ppuUpdate (456 * n)).Begins .oamScan n frames := by
  induction n with
  | zero => rw [Nat.mul_zero, ppuUpdate_zero h]; exact h
  | succ n ih =>
    rw [Nat.mul_succ, ppuUpdate_add]
    exact begins_next_visible (ih (by omega)) (by omega)

theorem begins_vblank_lines (h : s.Begins .vblank 144 frames) (n : Nat) (hn : n ≤ 9) :
    (s.ppuUpdate (456 * n)).Begins .vblank (144 + n) frames := by
  induction n with
  | zero => rw [Nat.mul_zero, ppuUpdate_zero h]; exact h
  | succ n ih =>
    rw [Nat.mul_succ, ppuUpdate_add, ← Nat.add_assoc]
    exact begins_next_vblank (ih (by omega)) (by omega)

end

/-- Settles O52: 143 visible lines, the one that ends in VBlank, nine of VBlank, and the one that presents. -/
theorem frameLasts70224Cycles : Obligations.FrameLasts70224Cycles := by
  intro s hon hoff hm hd hly t
  have hbegin : s.Begins .oamScan 0 s.presented := ⟨⟨hon, hoff⟩, hm, hd, hly, rfl, nofun⟩
  obtain ⟨hend, hrequested⟩ := begins_frame (begins_vblank_lines (begins_vblank (begins_visible_lines hbegin 143 (by decide))) 9 (by decide))
  rw [← ppuUpdate_add, ← ppuUpdate_add, ← ppuUpdate_add] at hend hrequested
  have ht : t = { s with iflag := t.iflag, ppu := t.ppu, presented := t.presented } := ppuUpdate_eq s 70224
  exact ⟨hend.mode, hend.dots, hend.ly, hend.presented, hrequested, by rw [ht], by rw [ht], by rw [ht]⟩

end Sys2Proof.Machine
end

section
/-! The background and window pass (spec/60_exceptions.md R850, R852): the palette index and the colour as numbers, the rule's choice between window and
background, and the row compose writes. -/

namespace Sys2Proof.Machine

/-- The two planes as the digits of the index. -/
theorem planeIndex_toNat (lo hi : Byte) (b : Nat) :
    (planeIndex lo hi b).toNat = hi.toNat / 2 ^ b % 2 * 2 + lo.toNat / 2 ^ b % 2 := by
  have h (c d : Bool) : (bit c ++ bit d).toNat = c.toNat * 2 + d.toNat := by decide +revert
  rw [planeIndex, h, BitVec.getLsbD, BitVec.getLsbD, Nat.toNat_testBit, Nat.toNat_testBit]

/-- A palette holds four colours of two bits (R124). -/
theorem colour_toNat (palette : Byte) (i : BitVec 2) : (colour palette i).toNat = palette.toNat / 4 ^ i.toNat % 4 := by
  rw [colour, BitVec.toNat_setWidth, BitVec.toNat_ushiftRight, Nat.shiftRight_eq_div_pow, Nat.pow_mul]

/-- The start of a tile's data as the integer of the rule. -/
theorem tileBase_eq (s : State) (t : Byte) :
    s.tileBase t = (if s.ppu.lcdc.getLsbD 4 then 0x8000 + t.toNat * 16 else 0x9000 + t.toInt * 16 : Int).toNat := by
  unfold State.tileBase
  split <;> rfl

/-- The palette index of a pixel of a tile map (R850). -/
def State.mapIndex (s : State) (px py map : Nat) : BitVec 2 :=
  let row := s.tileBase (s.vram (map + py / 8 * 32 + px / 8)) + py % 8 * 2
  planeIndex (s.vram row) (s.vram (row + 1)) (7 - px % 8)

theorem bgIndex_of_off {s : State} (h : s.ppu.lcdc.getLsbD 0 = false) (ly x : Nat) : s.bgIndex ly x = 0 :=
  if_neg (ne_true_of_eq_false h)

section
variable {s : State} {ly x : Nat} (hon : s.ppu.lcdc.getLsbD 0 = true)
include hon

theorem bgIndex_of_window (hw : s.ppu.lcdc.getLsbD 5 = true ∧ ly ≥ s.ppu.wy.toNat ∧ x + 7 ≥ s.ppu.wx.toNat) :
    s.bgIndex ly x = s.mapIndex (x + 7 - s.ppu.wx.toNat) (ly - s.ppu.wy.toNat) (if s.ppu.lcdc.getLsbD 6 then 0x9C00 else 0x9800) := by
  obtain ⟨h5, hy, hx⟩ := hw
  simp only [State.bgIndex, hon, h5, decide_eq_true hy, decide_eq_true hx, Bool.and_self, if_true]
  rfl

theorem bgIndex_of_background (hw : ¬(s.ppu.lcdc.getLsbD 5 = true ∧ ly ≥ s.ppu.wy.toNat ∧ x + 7 ≥ s.ppu.wx.toNat)) :
    s.bgIndex ly x = s.mapIndex ((x + s.ppu.scx.toNat) % 256) ((ly + s.ppu.scy.toNat) % 256)
      (if s.ppu.lcdc.getLsbD 3 then 0x9C00 else 0x9800) := by
  have hf : (s.ppu.lcdc.getLsbD 5 && decide (s.ppu.wy.toNat ≤ ly) && decide (s.ppu.wx.toNat ≤ x + 7)) = false := by
    simpa [and_assoc] using hw
  simp only [State.bgIndex, hon, hf, if_true, Bool.false_eq_true, if_false]
  rfl

theorem bgPixel_toNat : (s.bgPixel ly x).toNat = s.ppu.bgp.toNat / 4 ^ (s.bgIndex ly x).toNat % 4 := by
  rw [State.bgPixel, if_pos hon, colour_toNat]

end

/-- The index in the rule's own arithmetic. -/
theorem mapIndex_toNat (s : State) (px py map : Nat) :
    let t := s.mem.read (map + (py >>> 3) * 32 + (px >>> 3))
    let base : Int := if s.ppu.lcdc.getLsbD 4 then 0x8000 + t.toNat * 16 else 0x9000 + t.toInt * 16
    let lo := s.mem.read (base.toNat + (py &&& 7) * 2)
    let hi := s.mem.read (base.toNat + (py &&& 7) * 2 + 1)
    (s.mapIndex px py map).toNat = (hi.toNat / 2 ^ (7 - (px &&& 7)) % 2) * 2 + lo.toNat / 2 ^ (7 - (px &&& 7)) % 2 := by
  have hdiv (n : Nat) : n >>> 3 = n / 8 := Nat.shiftRight_eq_div_pow n 3
  have hmod (n : Nat) : n &&& 7 = n % 8 := Nat.and_two_pow_sub_one_eq_mod n 3
  intro t base lo hi
  rw [State.mapIndex, planeIndex_toNat]
  simp only [State.vram, tileBase_eq, lo, hi, base, t, hdiv, hmod]

/-- The row compose writes, and the others (R852). -/
theorem compose_pixel (s : State) (j : Fin 144) (k : Fin 160) :
    (s.compose.ppu.fb[j])[k] = if j.val = s.ppu.ly.toNat then s.pixel s.ppu.ly.toNat k.val else (s.ppu.fb[j])[k] := by
  simp only [State.compose, Fin.getElem_fin, Vector.getElem_setIfInBounds, eq_comm (a := j.val)]
  split <;> simp

/-- Settles O54: the model's arithmetic is the rule's, with the window where its three tests hold. -/
theorem backgroundAndWindowPixels : Obligations.BackgroundAndWindowPixels := by
  intro s ly x _
  refine ⟨fun hoff => ⟨if_neg (ne_true_of_eq_false hoff), bgIndex_of_off hoff ly x⟩, ?_, fun hoff => if_neg (ne_true_of_eq_false hoff),
    fun _ => compose_pixel s, rfl⟩
  intro hon window px py map hin hout
  have hindex : s.bgIndex ly x = s.mapIndex px py map := by
    by_cases hw : window
    · obtain ⟨rfl, rfl, rfl⟩ := hin hw
      exact bgIndex_of_window hon hw
    · obtain ⟨rfl, rfl, rfl⟩ := hout hw
      exact bgIndex_of_background hon hw
  have hraw := hindex ▸ mapIndex_toNat s px py map
  exact ⟨hraw, hraw ▸ bgPixel_toNat hon⟩

end Sys2Proof.Machine
end

section
/-! The sprite pass (spec/60_exceptions.md R851): what the rule's loops do to one column of the line, entry by entry, against the model's first visible
sprite of the column. -/

namespace Sys2Proof.Machine

/-! ### One column of the line -/

/-- What the loop carries for column `x`: drawn, and the pixel. -/
def Line.column (l : Line) (x : Nat) : Bool × BitVec 2 := (l.drawn x, l.row x)

theorem row_eq_column (l : Line) (x : Nat) : l.row x = (l.column x).2 := rfl

/-- A palette index that is not the transparent 0. -/
def visible (i : BitVec 2) : Option (BitVec 2) := if i = 0 then none else some i

/-- What an entry with flags `f` does to a column where the background has the index `raw` and the entry `i`. -/
def State.paint (s : State) (f : Byte) (raw : BitVec 2) (i : Option (BitVec 2)) (c : Bool × BitVec 2) : Bool × BitVec 2 :=
  match i with
  | none => c
  | some i =>
    if c.1 then c
    else (true, if f.getLsbD 7 && raw != 0 then c.2 else colour (if f.getLsbD 4 then s.ppu.obp1 else s.ppu.obp0) i)

theorem paint_none (s : State) (f : Byte) (raw : BitVec 2) (c : Bool × BitVec 2) : s.paint f raw none c = c := rfl

/-- An earlier entry wins a column over a later one. -/
theorem paint_drawn {s : State} {f : Byte} {raw : BitVec 2} {c : Bool × BitVec 2} (h : c.1 = true) (i : Option (BitVec 2)) :
    s.paint f raw i c = c := by
  cases i with
  | none => rfl
  | some i => exact if_pos h

/-- The rule's index as a number is the model's index of the two planes. -/
theorem planeIndex_toNat_eq (lo hi : Byte) (b : Nat) :
    (hi.getLsbD b).toNat * 2 + (lo.getLsbD b).toNat = (planeIndex lo hi b).toNat := by
  rw [planeIndex_toNat, BitVec.getLsbD, BitVec.getLsbD, Nat.toNat_testBit, Nat.toNat_testBit]

theorem colour_eq_ofNat (palette : Byte) (i : BitVec 2) : BitVec.ofNat 2 (palette.toNat / 4 ^ i.toNat) = colour palette i :=
  BitVec.eq_of_toNat_eq (by rw [colour_toNat, BitVec.toNat_ofNat])

/-! ### The loop over the columns of an entry -/

section
variable {s : State} {raw : Nat → BitVec 2} {sx : Int} {f lo hi : Byte} {l : Line} {k x : Nat}

theorem count_spriteColumn : (s.spriteColumn raw sx f lo hi l k).count = l.count := by
  unfold State.spriteColumn
  dsimp only
  split_ifs <;> rfl

theorem column_spriteColumn_of_ne (h : sx + k ≠ x) : (s.spriteColumn raw sx f lo hi l k).column x = l.column x := by
  unfold State.spriteColumn
  dsimp only
  split
  · rfl
  · have hx : x ≠ (sx + k).toNat := by omega
    split_ifs <;> simp [Line.column, hx]

theorem column_spriteColumn_of_eq (h : sx + k = x) (hx : x < 160) :
    (s.spriteColumn raw sx f lo hi l k).column x =
      s.paint f (raw x) (visible (planeIndex lo hi (if f.getLsbD 5 then k else 7 - k))) (l.column x) := by
  have htoNat : (x : Int).toNat = x := Int.toNat_natCast x
  have hin : ¬(x : Int) < 0 ∧ ¬159 < (x : Int) := by omega
  unfold State.spriteColumn
  simp only [h, htoNat, hin, false_or, planeIndex_toNat_eq, colour_eq_ofNat]
  generalize planeIndex lo hi (if f.getLsbD 5 then k else 7 - k) = i
  by_cases hd : l.drawn x = true
  · rw [if_pos hd, paint_drawn (by exact hd)]
  · have hzero : i.toNat = 0 ↔ i = 0 := by rw [← BitVec.toNat_inj]; rfl
    rw [if_neg hd, visible]
    by_cases hi : i = 0
    · rw [if_pos (hzero.mpr hi), if_pos hi]
      rfl
    · have hcolumn : ¬(l.column x).1 = true := hd
      have hb : (f.getLsbD 7 && raw x != 0) = true ↔ f.getLsbD 7 = true ∧ raw x ≠ 0 := by rw [Bool.and_eq_true, bne_iff_ne]
      rw [if_neg (mt hzero.mp hi), if_neg hi, State.paint, if_neg hcolumn]
      by_cases hbehind : f.getLsbD 7 = true ∧ raw x ≠ 0
      · rw [if_pos hbehind, if_pos (hb.mpr hbehind)]
        exact Prod.ext (if_pos rfl) rfl
      · rw [if_neg hbehind, if_neg (mt hb.mp hbehind)]
        exact Prod.ext (if_pos rfl) (if_pos rfl)

/-- The eight columns of an entry: at most one of them is the column looked at (R851). -/
theorem column_foldl_spriteColumn (hx : x < 160) (m : Nat) :
    ((List.range m).foldl (s.spriteColumn raw sx f lo hi) l).column x =
      s.paint f (raw x)
        (if sx ≤ (x : Int) ∧ ((x : Int) - sx).toNat < m then
          visible (planeIndex lo hi (if f.getLsbD 5 then ((x : Int) - sx).toNat else 7 - ((x : Int) - sx).toNat)) else none)
        (l.column x) := by
  induction m with
  | zero => simp [paint_none]
  | succ m ih =>
    rw [List.range_succ, List.foldl_append, List.foldl_cons, List.foldl_nil]
    by_cases h : sx + m = x
    · have hm : ((x : Int) - sx).toNat = m := by omega
      have hin : sx ≤ (x : Int) ∧ m < m + 1 := by omega
      rw [if_neg (by omega), paint_none] at ih
      rw [column_spriteColumn_of_eq h hx, ih, hm, if_pos hin]
    · rw [column_spriteColumn_of_ne h, ih]
      congr 1
      exact if_congr (by omega) rfl rfl

theorem count_foldl_spriteColumn (ks : List Nat) : (ks.foldl (s.spriteColumn raw sx f lo hi) l).count = l.count := by
  induction ks generalizing l with
  | nil => rfl
  | cons k ks ih => rw [List.foldl_cons, ih, count_spriteColumn]

end

/-! ### The loop over the entries -/

/-- An entry of OAM covers the line (R851). -/
def State.covers (s : State) (ly : Nat) (o : Sprite) : Bool := decide (o.sy ≤ (ly : Int) ∧ (ly : Int) < o.sy + s.spriteHeight)

theorem lineSprites_eq (s : State) (ly : Nat) :
    s.lineSprites ly = (((List.range 40).map s.sprite).filter (s.covers ly)).take 10 := rfl

/-- The address of the tile row an entry shows on the line, in the rule's arithmetic. -/
def State.tileRow (s : State) (o : Sprite) (ly : Nat) : Nat :=
  let row := if o.flags.getLsbD 6 then s.spriteHeight - 1 - ((ly : Int) - o.sy).toNat else ((ly : Int) - o.sy).toNat
  let t := if s.spriteHeight = 16 then o.tile.toNat / 2 * 2 else o.tile.toNat
  0x8000 + t * 16 + row * 2

theorem spriteIndex_eq (s : State) (o : Sprite) (ly x : Nat) :
    s.spriteIndex o ly x =
      if o.sx ≤ (x : Int) ∧ ((x : Int) - o.sx).toNat < 8 then
        visible (planeIndex (s.vram (s.tileRow o ly)) (s.vram (s.tileRow o ly + 1))
          (if o.flags.getLsbD 5 then ((x : Int) - o.sx).toNat else 7 - ((x : Int) - o.sx).toNat))
      else none := by
  have heven : (o.tile &&& 0xFE).toNat = o.tile.toNat / 2 * 2 := by
    generalize o.tile = t
    decide +revert
  have hrow : (if s.spriteHeight = 16 then o.tile &&& 0xFE else o.tile).toNat =
      if s.spriteHeight = 16 then o.tile.toNat / 2 * 2 else o.tile.toNat := by
    split
    · exact heven
    · rfl
  unfold State.spriteIndex State.tileRow visible
  dsimp only
  rw [hrow]
  exact if_congr (by omega) rfl rfl

/-- What an entry does to column `x` of the line. -/
def State.paintEntry (s : State) (ly : Nat) (raw : Nat → BitVec 2) (x : Nat) (c : Bool × BitVec 2) (o : Sprite) : Bool × BitVec 2 :=
  s.paint o.flags (raw x) (s.spriteIndex o ly x) c

section
variable {s : State} {ly x : Nat} {raw : Nat → BitVec 2} {l : Line} {n : Nat}

theorem spriteEntry_of_full (h : l.count = 10) : s.spriteEntry ly raw l n = l := if_pos h

theorem spriteEntry_of_not_covers (h : ¬s.covers ly (s.sprite n) = true) : s.spriteEntry ly raw l n = l := by
  unfold State.spriteEntry
  split
  · rfl
  · exact if_pos fun hc => h (decide_eq_true hc)

/-- An entry that covers the line counts, and paints its columns (R851). -/
theorem spriteEntry_of_covers (hx : x < 160) (hl : l.count ≠ 10) (h : s.covers ly (s.sprite n) = true) :
    (s.spriteEntry ly raw l n).count = l.count + 1 ∧
      (s.spriteEntry ly raw l n).column x = s.paintEntry ly raw x (l.column x) (s.sprite n) := by
  have hentry : s.spriteEntry ly raw l n =
      (List.range 8).foldl (s.spriteColumn raw (s.sprite n).sx (s.sprite n).flags (s.vram (s.tileRow (s.sprite n) ly))
        (s.vram (s.tileRow (s.sprite n) ly + 1))) { l with count := l.count + 1 } := by
    unfold State.spriteEntry
    rw [if_neg hl]
    exact if_neg (not_not.mpr (of_decide_eq_true h))
  rw [hentry, count_foldl_spriteColumn, column_foldl_spriteColumn hx, State.paintEntry, spriteIndex_eq]
  exact ⟨rfl, rfl⟩

/-- The loop over entries of OAM, on one column: the entries that cover the line paint it in order, until ten are counted. -/
theorem column_foldl_spriteEntry (hx : x < 160) (ns : List Nat) (hl : l.count ≤ 10) :
    (ns.foldl (s.spriteEntry ly raw) l).column x =
      ((((ns.map s.sprite).filter (s.covers ly)).take (10 - l.count)).foldl (s.paintEntry ly raw x) (l.column x)) := by
  induction ns generalizing l with
  | nil => simp
  | cons n ns ih =>
    rw [List.foldl_cons, List.map_cons]
    by_cases hfull : l.count = 10
    · rw [spriteEntry_of_full hfull, ih hl, hfull]
      simp
    · by_cases hc : s.covers ly (s.sprite n) = true
      · obtain ⟨hcount, hcolumn⟩ := spriteEntry_of_covers (raw := raw) hx hfull hc
        have hleft : 10 - l.count = 10 - (l.count + 1) + 1 := by omega
        rw [ih (by omega), hcount, hcolumn, List.filter_cons_of_pos hc, hleft, List.take_succ_cons, List.foldl_cons]
      · rw [spriteEntry_of_not_covers hc, ih hl, List.filter_cons_of_neg hc]

end

/-! ### The first visible entry -/

theorem foldl_paintEntry_drawn {s : State} {ly x : Nat} {raw : Nat → BitVec 2} {c : Bool × BitVec 2} (h : c.1 = true) (os : List Sprite) :
    os.foldl (s.paintEntry ly raw x) c = c := by
  induction os with
  | nil => rfl
  | cons o os ih => rw [List.foldl_cons, State.paintEntry, paint_drawn h, ih]

/-- The first entry that is visible in a column decides it (R851). -/
theorem foldl_paintEntry (s : State) (ly x : Nat) (raw : Nat → BitVec 2) (bg : BitVec 2) (os : List Sprite) :
    (os.foldl (s.paintEntry ly raw x) (false, bg)).2 =
      match os.findSome? fun o => (s.spriteIndex o ly x).map fun i => (o, i) with
      | none => bg
      | some (o, i) => (s.paint o.flags (raw x) (some i) (false, bg)).2 := by
  induction os with
  | nil => rfl
  | cons o os ih =>
    rw [List.foldl_cons, List.findSome?_cons, State.paintEntry]
    cases s.spriteIndex o ly x with
    | none => exact ih
    | some i => exact congrArg Prod.snd (foldl_paintEntry_drawn rfl os)

/-- Column `x` of the rule's row: the model's sprites of the line paint it in order. -/
theorem spriteRow_eq (s : State) (ly : Nat) (raw bg : Nat → BitVec 2) {x : Nat} (hx : x < 160) :
    s.spriteRow ly raw bg x = ((s.lineSprites ly).foldl (s.paintEntry ly raw x) (false, bg x)).2 := by
  have hloop := column_foldl_spriteEntry (s := s) (ly := ly) (raw := raw)
    (l := { count := 0, drawn := fun _ => false, row := bg }) hx (List.range 40) (Nat.zero_le 10)
  rw [Nat.sub_zero, ← lineSprites_eq] at hloop
  rw [State.spriteRow, row_eq_column, hloop]
  rfl

/-- Settles O55: column by column, the entries that cover the line paint in order, and the first that is visible decides. -/
theorem spritePixelsAreTheLoopOfTheRule : Obligations.SpritePixelsAreTheLoopOfTheRule := by
  intro s ly x hx hon
  rw [spriteRow_eq s ly _ _ hx, foldl_paintEntry, State.pixel, if_pos hon]
  cases (s.lineSprites ly).findSome? fun o => (s.spriteIndex o ly x).map fun i => (o, i) with
  | none => rfl
  | some p => rfl

end Sys2Proof.Machine
end

section
/-! The turns of OAM DMA (spec/60_exceptions.md R861, R862): the loop without its end test, with cycles to spare, and two updates as one. -/

namespace Sys2Proof.Machine

/-! ### The turns and the end test apart -/

/-- The state after a turn that reads `v`. -/
def State.dmaCopy (s : State) (v : Byte) : State :=
  { s with mem := s.mem.write (0xFE00 + s.dma.index) v, dma := { s.dma with acc := s.dma.acc - 1, index := s.dma.index + 1 } }

/-- The state in which a turn raises: the byte's cycle is taken. -/
def State.dmaSpend (s : State) : State := { s with dma := { s.dma with acc := s.dma.acc - 1 } }

theorem dmaByteThen_some {s : State} {v : Byte} (k : State → Result) (h : s.busRead s.dma.nextAddr = some v) :
    s.dmaByteThen k = k (s.dmaCopy v) := by
  have hs : s.dmaSpend.busRead s.dmaSpend.dma.nextAddr = some v := h
  unfold State.dmaSpend at hs
  simp only [State.dmaByteThen, Config.dmaCyclesPerByte, hs]
  rfl

theorem dmaByteThen_none {s : State} (k : State → Result) (h : s.busRead s.dma.nextAddr = none) :
    s.dmaByteThen k = s.dmaSpend.busFault s.dma.nextAddr := by
  have hs : s.dmaSpend.busRead s.dmaSpend.dma.nextAddr = none := h
  unfold State.dmaSpend at hs
  simp only [State.dmaByteThen, Config.dmaCyclesPerByte, hs]
  rfl

/-- `n` turns of the loop, without the end test. -/
def State.dmaTurns : Nat → State → Result
  | 0, s => .next s
  | n + 1, s => s.dmaByteThen (State.dmaTurns n)

/-- The end test: at 160 bytes the transfer is over. -/
def State.dmaEnd (s : State) : State :=
  if s.dma.index = 160 then { s with dma := { s.dma with active := false, acc := 0 } } else s

theorem dmaTurns_some {s : State} {v : Byte} (h : s.busRead s.dma.nextAddr = some v) (n : Nat) :
    s.dmaTurns (n + 1) = (s.dmaCopy v).dmaTurns n := dmaByteThen_some _ h

theorem dmaTurns_none {s : State} (h : s.busRead s.dma.nextAddr = none) (n : Nat) :
    s.dmaTurns (n + 1) = s.dmaSpend.busFault s.dma.nextAddr := dmaByteThen_none _ h

theorem dmaTurns_add (m n : Nat) (s : State) : s.dmaTurns (m + n) = andThen (s.dmaTurns m) (State.dmaTurns n) := by
  induction m generalizing s with
  | zero => rw [Nat.zero_add]; rfl
  | succ m ih =>
    rw [Nat.succ_add]
    cases h : s.busRead s.dma.nextAddr with
    | some v => rw [dmaTurns_some h, dmaTurns_some h, ih]
    | none => rw [dmaTurns_none h, dmaTurns_none h]; rfl

theorem dmaBytes_eq_dmaTurns (n : Nat) (s : State) : s.dmaBytes n = andThen (s.dmaTurns n) fun t => .next t.dmaEnd := by
  induction n generalizing s with
  | zero => rfl
  | succ n ih =>
    rw [State.dmaBytes]
    cases h : s.busRead s.dma.nextAddr with
    | some v => rw [dmaByteThen_some _ h, ih, dmaTurns_some h]
    | none => rw [dmaByteThen_none _ h, dmaTurns_none h]; rfl

/-- What turns that end in a next state leave of the DMA's state. -/
theorem dma_of_dmaTurns {n : Nat} {s t : State} (h : s.dmaTurns n = .next t) :
    t.dma = { s.dma with index := s.dma.index + n, acc := s.dma.acc - n } := by
  induction n generalizing s with
  | zero => cases h; rfl
  | succ n ih =>
    cases hv : s.busRead s.dma.nextAddr with
    | some v =>
      rw [dmaTurns_some hv] at h
      rw [ih h, State.dmaCopy, Nat.add_comm n 1, ← Nat.add_assoc, ← Nat.sub_sub]
    | none => rw [dmaTurns_none hv] at h; cases h

/-! ### Cycles to spare -/

def State.addAcc (s : State) (b : Nat) : State := { s with dma := { s.dma with acc := s.dma.acc + b } }

/-- The outcome of turns with `b` more cycles in DMA_ACC. -/
def addAccTo (b : Nat) (o : Result) : Result :=
  match o with
  | .next t => .next (t.addAcc b)
  | .fault (.busRoutingError x t) => .fault (.busRoutingError x (t.addAcc b))
  | o => o

@[simp] theorem addAccTo_next (b : Nat) (t : State) : addAccTo b (.next t) = .next (t.addAcc b) := rfl

@[simp] theorem addAccTo_busFault (b : Nat) (t : State) (x : Word) : addAccTo b (t.busFault x) = (t.addAcc b).busFault x := rfl

theorem dmaTurns_addAcc {n : Nat} {s : State} (h : n ≤ s.dma.acc) (b : Nat) : (s.addAcc b).dmaTurns n = addAccTo b (s.dmaTurns n) := by
  induction n generalizing s with
  | zero => rfl
  | succ n ih =>
    have hacc : s.dma.acc + b - 1 = s.dma.acc - 1 + b := by omega
    cases hv : s.busRead s.dma.nextAddr with
    | some v =>
      have hcopy : (s.addAcc b).dmaCopy v = (s.dmaCopy v).addAcc b := by simp only [State.dmaCopy, State.addAcc, hacc]
      rw [dmaTurns_some hv, dmaTurns_some (s := s.addAcc b) hv, hcopy]
      exact ih (Nat.le_sub_one_of_lt h)
    | none =>
      have hspend : (s.addAcc b).dmaSpend = s.dmaSpend.addAcc b := by simp only [State.dmaSpend, State.addAcc, hacc]
      rw [dmaTurns_none hv, dmaTurns_none (s := s.addAcc b) hv, hspend]
      rfl

/-! ### Two updates -/

theorem dmaUpdate_of_inactive {s : State} (h : ¬s.dma.active = true) (c : Nat) : s.dmaUpdate c = .next s := if_neg h

/-- The turns of an update (R861). -/
theorem dmaUpdate_of_active {s : State} (h : s.dma.active = true) (hacc : s.dma.acc = 0) (c : Nat) :
    s.dmaUpdate c = andThen ((s.addAcc c).dmaTurns (min c (160 - s.dma.index))) fun t => .next t.dmaEnd := by
  have hc : (s.dma.acc + c) / Config.dmaCyclesPerByte = c := by rw [hacc, Nat.zero_add, Config.dmaCyclesPerByte, Nat.div_one]
  rw [State.dmaUpdate, if_pos h, dmaBytes_eq_dmaTurns]
  dsimp only
  rw [hc]
  rfl

/-- The turns of an update by a sum are those of its first part, with the rest of the cycles to spare, and some more. -/
theorem dmaUpdate_add_of_active {s : State} (h : s.dma.active = true) (hacc : s.dma.acc = 0) (a b : Nat) :
    s.dmaUpdate (a + b) =
      andThen (andThen (addAccTo b ((s.addAcc a).dmaTurns (min a (160 - s.dma.index))))
        (State.dmaTurns (min (a + b) (160 - s.dma.index) - min a (160 - s.dma.index)))) fun t => .next t.dmaEnd := by
  have hspare : (s.addAcc (a + b)) = (s.addAcc a).addAcc b := by simp only [State.addAcc, Nat.add_assoc]
  have hle : min a (160 - s.dma.index) ≤ (s.addAcc a).dma.acc := by
    show min a (160 - s.dma.index) ≤ s.dma.acc + a
    omega
  have hmin : min (a + b) (160 - s.dma.index) =
      min a (160 - s.dma.index) + (min (a + b) (160 - s.dma.index) - min a (160 - s.dma.index)) := by omega
  rw [dmaUpdate_of_active h hacc, hspare, ← dmaTurns_addAcc hle, ← dmaTurns_add, ← hmin]

theorem dmaEnd_of_complete {s : State} (h : s.dma.index = 160) :
    s.dmaEnd = { s with dma := { s.dma with active := false, acc := 0 } } := if_pos h

theorem dmaEnd_of_incomplete {s : State} (h : s.dma.index ≠ 160) : s.dmaEnd = s := if_neg h

/-- Where the first update ends in a next state, the second goes on from it. -/
theorem dmaUpdate_add_of_next {s t : State} {a : Nat} (b : Nat) (hs : s.dma.Settled) (h : s.dmaUpdate a = .next t) :
    s.dmaUpdate (a + b) = t.dmaUpdate b := by
  obtain ⟨hindex, hactive, hacc⟩ := hs
  by_cases ha : s.dma.active = true
  · rw [dmaUpdate_of_active ha hacc] at h
    obtain ⟨u, hu, ht⟩ := andThen_next h
    obtain rfl := Host.Outcome.next.inj ht
    have hlt := hactive.mp ha
    have hdma := dma_of_dmaTurns hu
    have huindex : u.dma.index = s.dma.index + min a (160 - s.dma.index) := by rw [hdma]; rfl
    rw [dmaUpdate_add_of_active ha hacc, hu, addAccTo_next, andThen_of_next]
    by_cases he : u.dma.index = 160
    · have hnone : min (a + b) (160 - s.dma.index) - min a (160 - s.dma.index) = 0 := by omega
      rw [hnone, dmaEnd_of_complete he, dmaUpdate_of_inactive (by exact Bool.false_ne_true)]
      exact congrArg Host.Outcome.next (dmaEnd_of_complete he)
    · have hmore : min (a + b) (160 - s.dma.index) - min a (160 - s.dma.index) = min b (160 - u.dma.index) := by omega
      have huactive : u.dma.active = true := by rw [hdma]; exact ha
      have huacc : u.dma.acc = 0 := by
        rw [hdma]
        show s.dma.acc + a - min a (160 - s.dma.index) = 0
        omega
      rw [hmore, dmaEnd_of_incomplete he, dmaUpdate_of_active huactive huacc]
  · rw [dmaUpdate_of_inactive ha] at h ⊢
    obtain rfl := Host.Outcome.next.inj h
    exact (dmaUpdate_of_inactive ha b).symm

/-- Where the first update raises, so does the longer one, with its cycles more to spare. -/
theorem dmaUpdate_add_of_busFault {s t : State} {a : Nat} {x : Word} (b : Nat) (hacc : s.dma.acc = 0) (h : s.dmaUpdate a = t.busFault x) :
    s.dmaUpdate (a + b) = (t.addAcc b).busFault x := by
  by_cases ha : s.dma.active = true
  · have hturns : (s.addAcc a).dmaTurns (min a (160 - s.dma.index)) = t.busFault x := by
      rw [dmaUpdate_of_active ha hacc] at h
      cases hu : (s.addAcc a).dmaTurns (min a (160 - s.dma.index)) <;> rw [hu] at h
      case next => cases h
      case fault => exact h
      case refused => cases h
    rw [dmaUpdate_add_of_active ha hacc, hturns]
    rfl
  · rw [dmaUpdate_of_inactive ha] at h
    cases h

/-- One cycle of an active transfer copies a byte, with the end test after it, or raises at the byte's address (R861). -/
theorem dmaUpdate_one {s : State} (ha : s.dma.active = true) (hi : s.dma.index < 160) (hacc : s.dma.acc = 0) :
    (s.busRead s.dma.nextAddr = none → s.dmaUpdate 1 = s.busFault s.dma.nextAddr) ∧
      ∀ v, s.busRead s.dma.nextAddr = some v → s.dmaUpdate 1 = .next ((s.addAcc 1).dmaCopy v).dmaEnd := by
  have hone : min 1 (160 - s.dma.index) = 0 + 1 := by omega
  have hspend : (s.addAcc 1).dmaSpend = s := rfl
  rw [dmaUpdate_of_active ha hacc, hone]
  refine ⟨fun h => ?_, fun v h => ?_⟩
  · rw [dmaTurns_none (s := s.addAcc 1) h, hspend]
    rfl
  · rw [dmaTurns_some (s := s.addAcc 1) h]
    rfl

theorem dmaEnd_dmaCopy {s : State} (ha : s.dma.active = true) (hi : s.dma.index < 160) (hacc : s.dma.acc = 0) (v : Byte) :
    ((s.addAcc 1).dmaCopy v).dmaEnd = { s with
      mem := s.mem.write (0xFE00 + s.dma.index) v
      dma := { s.dma with index := s.dma.index + 1, active := decide (s.dma.index + 1 < 160) } } := by
  by_cases he : s.dma.index + 1 = 160
  · rw [dmaEnd_of_complete he]
    simp [State.dmaCopy, State.addAcc, hacc, he]
  · have hlt : s.dma.index + 1 < 160 := by omega
    rw [dmaEnd_of_incomplete he]
    simp [State.dmaCopy, State.addAcc, ha, hacc, hlt]

end Sys2Proof.Machine
end

section
/-! A transfer of OAM DMA from its start (spec/60_exceptions.md R860 to R862, spec/20_memory.md R203): the bytes copied so far do not change what the
bus reads at those still to copy, so each is what the bus read before the transfer. -/

namespace Sys2Proof.Machine

/-! ### What the bus reads during a transfer -/

/-- A read does not see memory but for the cell behind its address, nor the progress of the DMA. -/
theorem busRead_setMem_setDma {s : State} {m : Memory} {d : Dma} {a : Word} (hd : d.reg = s.dma.reg)
    (hm : ∀ k, s.cellOf a.toNat = some k → m.read k = s.mem.read k) : State.busRead { s with mem := m, dma := d } a = s.busRead a := by
  have hcell : State.readCell { s with mem := m, dma := d } a.toNat = s.readCell a.toNat := by
    unfold State.readCell
    rw [cellOf_congr (t := { s with mem := m, dma := d }) (s := s) rfl]
    cases hk : s.cellOf a.toNat with
    | none => rfl
    | some k => exact hm k hk
  unfold State.busRead
  cases deviceAt a.toNat with
  | none => rfl
  | some x =>
    dsimp only
    cases x with
    | cartridge | ram => exact congrArg some hcell
    | ppu =>
      unfold State.deviceRead
      dsimp only
      rw [hcell, hd]
    | timer | interrupts | joypad | serial => rfl

/-- The cells of OAM are behind their own addresses only (R208). -/
theorem eq_of_cellOf_oam {s : State} {a k : Nat} (h : s.cellOf a = some k) (hk : 0xFE00 ≤ k ∧ k < 0xFEA0) : a = k := by
  have hrom : romBase = 0x100000 := rfl
  have hcram : cramBase = 0x10000 := rfl
  unfold State.cellOf at h
  split_ifs at h
  · obtain rfl := Option.some.inj h
    omega
  · exact Option.some.inj h
  · obtain ⟨j, -, rfl⟩ := Option.map_eq_some_iff.mp h
    omega
  all_goals
    obtain rfl := Option.some.inj h
    omega

/-- The address of byte `i` of page `v`. -/
def pageAddr (v : Byte) (i : Nat) : Word := BitVec.ofNat 16 (v.toNat * 256 + i)

theorem pageAddr_zero (v : Byte) : pageAddr v 0 = BitVec.ofNat 16 (v.toNat * 256) := by
  rw [pageAddr, Nat.add_zero]

theorem pageAddr_add (v : Byte) (i : Nat) : pageAddr v 0 + BitVec.ofNat 16 i = pageAddr v i := by
  rw [pageAddr_zero, pageAddr, BitVec.ofNat_add]

theorem toNat_pageAddr (v : Byte) {i : Nat} (h : i < 256) : (pageAddr v i).toNat = v.toNat * 256 + i := by
  have := v.isLt
  rw [pageAddr, BitVec.toNat_ofNat]
  omega

/-- Every byte of a transfer's source is answered, but under Fault those of page 0xFF from 0xFF03 on (R203). -/
theorem busRead_pageAddr_ne_none {s : State} {v : Byte} {i : Nat} (h : s.policy = .openBus ∨ v ≠ 0xFF ∨ i < 3) (hi : i < 160) :
    s.busRead (pageAddr v i) ≠ none := by
  obtain hp | h := h
  · exact busRead_ne_none hp _
  · have hmapped : deviceAt (pageAddr v i).toNat ≠ none := by
      rw [Ne, deviceAt_eq_none_iff_unmapped, ← BitVec.toNat_inj, toNat_pageAddr v (by omega)]
      have hv := v.isLt
      have h255 : v ≠ 0xFF ↔ v.toNat ≠ 255 := by rw [Ne, ← BitVec.toNat_inj]; rfl
      rw [h255] at h
      simp only [BitVec.ofNat_eq_ofNat, BitVec.toNat_ofNat]
      omega
    obtain ⟨d, hd⟩ := Option.ne_none_iff_exists'.mp hmapped
    simp [State.busRead, hd]

theorem busRead_FF03 {s : State} (h : s.policy = .fault) : s.busRead 0xFF03 = none := by
  have hunmapped : deviceAt (0xFF03 : Word).toNat = none := (deviceAt_eq_none_iff_unmapped _).mpr (.inl rfl)
  exact (bus_unmapped_fault hunmapped h 0).1

/-! ### The bytes of a transfer -/

/-- `n` bytes of the transfer from page `v` are copied, from `s` to `t`. -/
structure State.Copied (s : State) (v : Byte) (n : Nat) (t : State) : Prop where
  frame : t = { s with mem := t.mem, dma := { s.dma with index := n, acc := s.dma.acc - n } }
  bytes : ∀ i < n, s.busRead (pageAddr v i) = some (t.mem.read (0xFE00 + i))
  cells : ∀ k, k < 0xFE00 ∨ 0xFE00 + n ≤ k → t.mem.read k = s.mem.read k

/-- The bytes copied so far are none of those to copy: also from page 0xFE, where each is its own source. -/
theorem State.Copied.busRead_eq {s t : State} {v : Byte} {n : Nat} (h : s.Copied v n t) (hn : n < 160) :
    t.busRead (pageAddr v n) = s.busRead (pageAddr v n) := by
  rw [h.frame]
  refine busRead_setMem_setDma rfl fun k hk => h.cells k ?_
  by_contra hc
  have ha := eq_of_cellOf_oam hk (by omega)
  rw [toNat_pageAddr v (by omega)] at ha
  omega

theorem State.Copied.turn {s t : State} {v b : Byte} {n : Nat} (h : s.Copied v n t) (hb : s.busRead (pageAddr v n) = some b) :
    s.Copied v (n + 1) (t.dmaCopy b) := by
  have hmem : (t.dmaCopy b).mem = t.mem.write (0xFE00 + n) b := by
    rw [State.dmaCopy, h.frame]
  have hdma : t.dma = { s.dma with index := n, acc := s.dma.acc - n } := congrArg State.dma h.frame
  refine ⟨?_, fun i hi => ?_, fun k hk => ?_⟩
  · rw [State.dmaCopy, hdma]
    rw [h.frame]
    rfl
  · rw [hmem, Memory.read_write]
    by_cases hin : i = n
    · rw [if_pos (by omega), hin, hb]
    · rw [if_neg (by omega), h.bytes i (by omega)]
  · rw [hmem, Memory.read_write_other _ _ (by omega), h.cells k (by omega)]

section
variable {s : State} {v : Byte} (hsrc : s.dma.src = pageAddr v 0)
include hsrc

theorem State.Copied.nextAddr_eq {t : State} {n : Nat} (h : s.Copied v n t) : t.dma.nextAddr = pageAddr v n := by
  have hdma : t.dma = { s.dma with index := n, acc := s.dma.acc - n } := congrArg State.dma h.frame
  rw [hdma, Dma.nextAddr, hsrc, pageAddr_add]

/-- The turns of a transfer from its start copy as many bytes as the bus answers. -/
theorem dmaTurns_copied (hindex : s.dma.index = 0) {n : Nat} (hn : n ≤ 160) (h : ∀ i < n, s.busRead (pageAddr v i) ≠ none) :
    ∃ t, s.dmaTurns n = .next t ∧ s.Copied v n t := by
  induction n with
  | zero =>
    refine ⟨s, rfl, ?_, fun i hi => absurd hi (Nat.not_lt_zero i), fun _ _ => rfl⟩
    rw [Nat.sub_zero, ← hindex]
  | succ n ih =>
    obtain ⟨t, ht, hc⟩ := ih (by omega) fun i hi => h i (by omega)
    obtain ⟨b, hb⟩ := Option.ne_none_iff_exists'.mp (h n (by omega))
    refine ⟨t.dmaCopy b, ?_, hc.turn hb⟩
    rw [dmaTurns_add, ht, andThen_of_next, dmaTurns_some (by rw [hc.nextAddr_eq hsrc, hc.busRead_eq (by omega), hb])]
    rfl

end

/-- The end test after `n` bytes of a transfer. -/
theorem dmaEnd_of_copied {s t : State} {v : Byte} {n : Nat} (h : s.Copied v n t) (ha : s.dma.active = true) (hn : n ≤ 160)
    (hacc : n < 160 → s.dma.acc = n) :
    t.dmaEnd = { s with mem := t.mem, dma := { s.dma with index := n, acc := 0, active := decide (n < 160) } } := by
  have hdma : t.dma = { s.dma with index := n, acc := s.dma.acc - n } := congrArg State.dma h.frame
  have hindex : t.dma.index = n := by rw [hdma]
  by_cases he : n = 160
  · rw [dmaEnd_of_complete (hindex.trans he), hdma, h.frame]
    simp [he]
  · rw [dmaEnd_of_incomplete (hindex.trans_ne he), h.frame]
    have hlt : n < 160 := by omega
    simp [hacc hlt, hlt, ha]

/-- The DMA after a write of its register (R860). -/
theorem dma_of_begin {s : State} {v : Byte} (hs : s.dma = Dma.begin v) :
    s.dma.active = true ∧ s.dma.acc = 0 ∧ s.dma.index = 0 ∧ s.dma.src = pageAddr v 0 := by
  rw [hs, dma_begin_eq, pageAddr_zero]
  exact ⟨rfl, rfl, rfl, rfl⟩

/-- A transfer that is answered copies a byte a cycle, and ends at 160 (R861). -/
theorem dmaUpdate_copies {s : State} {v : Byte} (hs : s.dma = Dma.begin v) {c : Nat} (h : s.policy = .openBus ∨ v ≠ 0xFF ∨ c < 4) :
    ∃ m : Memory, s.dmaUpdate c =
        .next { s with mem := m, dma := { s.dma with index := min c 160, acc := 0, active := decide (min c 160 < 160) } } ∧
      (∀ i < min c 160, s.busRead (pageAddr v i) = some (m.read (0xFE00 + i))) ∧
      ∀ k, k < 0xFE00 ∨ 0xFE00 + min c 160 ≤ k → m.read k = s.mem.read k := by
  obtain ⟨ha, hacc, hindex, hsrc⟩ := dma_of_begin hs
  obtain ⟨t, ht, hc⟩ := dmaTurns_copied (s := s.addAcc c) hsrc hindex (Nat.min_le_right c 160) fun i hi =>
    busRead_pageAddr_ne_none (s := s.addAcc c) (i := i) (h.imp_right (.imp_right fun _ => by omega)) (by omega)
  refine ⟨t.mem, ?_, hc.bytes, hc.cells⟩
  rw [dmaUpdate_of_active ha hacc, hindex, Nat.sub_zero, ht, andThen_of_next, dmaEnd_of_copied hc ha (Nat.min_le_right c 160)]
  · rfl
  · intro hlt
    show s.dma.acc + c = _
    omega

/-- Under Fault a transfer from page 0xFF raises at its fourth byte (R203, R861). -/
theorem dmaUpdate_raises {s : State} (hs : s.dma = Dma.begin 0xFF) (hp : s.policy = .fault) {c : Nat} (h : 4 ≤ c) :
    ∃ t : State, s.dmaUpdate c = t.busFault 0xFF03 ∧ t = { s with mem := t.mem, dma := t.dma } ∧ t.dma.active = true ∧ t.dma.index = 3 ∧
      (∀ i < 3, s.busRead (pageAddr 0xFF i) = some (t.mem.read (0xFE00 + i))) ∧
      ∀ k, k < 0xFE00 ∨ 0xFE03 ≤ k → t.mem.read k = s.mem.read k := by
  obtain ⟨ha, hacc, hindex, hsrc⟩ := dma_of_begin hs
  obtain ⟨t, ht, hc⟩ := dmaTurns_copied (s := s.addAcc c) hsrc hindex (by decide : 3 ≤ 160) fun i hi =>
    busRead_pageAddr_ne_none (s := s.addAcc c) (i := i) (.inr (.inr hi)) (by omega)
  have hnext := State.Copied.nextAddr_eq (s := s.addAcc c) hsrc hc
  have hnone : t.busRead t.dma.nextAddr = none := by
    rw [hnext, hc.busRead_eq (by decide)]
    exact busRead_FF03 (s := s.addAcc c) hp
  have hframe := hc.frame
  refine ⟨t.dmaSpend, ?_, ?_, ?_, ?_, hc.bytes, hc.cells⟩
  · have hturns : min c 160 = 3 + (min c 160 - 4 + 1) := by omega
    rw [dmaUpdate_of_active ha hacc, hindex, Nat.sub_zero, hturns, dmaTurns_add, ht, andThen_of_next, dmaTurns_none hnone, hnext]
    rfl
  · rw [State.dmaSpend, hframe]
    rfl
  · rw [State.dmaSpend, hframe]
    exact ha
  · rw [State.dmaSpend, hframe]

/-- Settles O56: two updates are one by the turns of both, and each byte of a transfer is copied before another changes what it reads. -/
theorem dmaCopiesOneBytePerCycle : Obligations.DmaCopiesOneBytePerCycle := by
  refine ⟨fun s hindex hactive hacc => ⟨fun a b t h => dmaUpdate_add_of_next b ⟨hindex, hactive, hacc⟩ h,
    fun a b t x h => dmaUpdate_add_of_busFault b hacc h, ?_⟩, fun s v => ⟨?_, fun c h => ?_, fun c hs => ?_⟩⟩
  · intro hi src
    obtain ⟨hnone, hsome⟩ := dmaUpdate_one (hactive.mpr hi) hi hacc
    refine ⟨hnone, fun v hv => ⟨_, hsome v hv, ?_⟩⟩
    rw [dmaEnd_dmaCopy (hactive.mpr hi) hi hacc]
    exact ⟨rfl, Memory.read_write_same _ _ _, fun k hk => Memory.read_write_other _ _ hk⟩
  · rw [← dma_begin_eq]
    rfl
  · exact dmaUpdate_of_inactive (ne_true_of_eq_false h) c
  · rw [← dma_begin_eq] at hs
    refine ⟨fun hp hv hc => ?_, fun h => ?_⟩
    · subst hv
      exact dmaUpdate_raises hs hp hc
    · intro n
      obtain ⟨m, hm, hbytes, hcells⟩ := dmaUpdate_copies hs h
      exact ⟨_, hm, rfl, by rw [hs]; rfl, rfl, rfl, rfl, decide_eq_true_iff, hbytes, hcells⟩

end Sys2Proof.Machine
end
